-- ==== Sys2Proof/Word.lean ====
section
/-! DEFINITION. The word types of the block: the widths 00_scope.md rules R9 and R12 name. -/

namespace Sys2Proof

/-- `u8`: a register byte, a command byte, a payload or reply byte (R12). -/
abbrev Byte := BitVec 8

/-- `u16`: a raw reading, the zero offset, the configuration word (R9 `RAW_BITS`). -/
abbrev U16 := BitVec 16

/-- `u7`: a bus device address (R9 `ADDR_BITS`). -/
abbrev U7 := BitVec 7

end Sys2Proof
end

