-- ==== Sys2Proof/Config.lean ====
section
/-! DEFINITION. What is fixed for a block: the constants of 00_scope.md rule R9, its configuration (the
number format of rule R11 and the timing parameters of rule R10), and the two values the spec leaves open without a
default. -/

namespace Sys2Proof

/-- A number format: what a format that takes the place of the exact rationals must supply, total functions of their
operands alone (R105, R113; 93_implementation_defined.md U3). The carrier is plain data with decidable equality. -/
structure NumFormat where
  /-- the values -/
  Carrier : Type
  /-- `toNum`: the value of an integer (R12) -/
  toNum : Int → Carrier
  /-- `×` -/
  mul : Carrier → Carrier → Carrier
  /-- `/`; the block only ever divides by the value of an integer that is not zero (R101) -/
  div : Carrier → Carrier → Carrier
  /-- the constant 1, the reset value of `SENS` -/
  one : Carrier

/-- The default format: the exact rationals (R11, R105; the spec's decision D3). -/
abbrev NumFormat.rationals : NumFormat where
  Carrier := Rat
  toNum i := (i : Rat)
  mul a b := a * b
  div a b := a / b
  one := 1

/-- The configuration of a block: the parameters that the spec gives a default (R10, R11, R113, R198;
93_implementation_defined.md U3, U9). Times are in microseconds. -/
structure Configuration where
  /-- the number format `Num` (D3; log 4) -/
  numFormat : NumFormat := .rationals
  /-- `T_SEL`, nominally 10 ms -/
  tSel : Nat := 10000
  /-- `T_OFF`, at least 100 ms -/
  tOff : Nat := 100000
  /-- `T_CMD`, about 10 ms -/
  tCmd : Nat := 10000
  /-- `T_WINDOW`, the device's command-mode entry window, nominally about 6 ms (D6) -/
  tWindow : Nat := 6000

/-- The configuration of this block, every parameter at its default. Another configuration is put here and nowhere else:
the rest of the model reads its fields through `Num` and the names of `Config` below. -/
abbrev Config.block : Configuration := {}

/-- `Num`, the type of sensitivity, known force and force: that of the configured format (R11; log 4). -/
abbrev Num : Type := Config.block.numFormat.Carrier

namespace Config

/-! Fixed constants (R9, R44, R68). -/

/-- `FORCE_REG`: the register selected and read for a raw force reading. -/
def forceReg : Byte := 0x06
/-- `CMD_ENTER`: enter command mode. -/
def cmdEnter : Byte := 0xA0
/-- `CMD_REQ_WORD2`: stage EEPROM word 2 for reading. -/
def cmdReqWord2 : Byte := 0x02
/-- `REG_FETCH`: the register read to fetch the staged reply. -/
def regFetch : Byte := 0x00
/-- `CMD_WRITE_WORD2`: write the EEPROM word. -/
def cmdWriteWord2 : Byte := 0x42
/-- `CMD_EXIT`: exit command mode. -/
def cmdExit : Byte := 0x80
/-- `ACK_EXPECTED`: the expected byte 0 of the fetch reply. -/
def ackExpected : Byte := 0x5A
/-- `KEEP_MASK`: the bits of the fetched word that are kept. -/
def keepMask : U16 := 0x8007
/-- `MODE_TAG`: the tag forced into bits [12:10]. -/
def modeTag : BitVec 3 := 0b011

/-! The operations of the configured number format (R105, R113). -/

/-- `toNum` (R12). -/
def toNum (i : Int) : Num := block.numFormat.toNum i

/-- `×` on `Num` (R105). -/
def numMul (a b : Num) : Num := block.numFormat.mul a b

/-- `/` on `Num` (R105). -/
def numDiv (a b : Num) : Num := block.numFormat.div a b

/-- The constant 1 of `Num` (R105). -/
def numOne : Num := block.numFormat.one

/-! Open values. -/

/-- The construction parameter `DEV_ADDR`: 7 bits, no default (10_state.md R16, D13; log 5). -/
opaque deviceAddress : U7

/-- What `T_SETTLE` is computed from; nothing is known of it, so `T_SETTLE` is any value the constraint of R10 allows
(OPEN in the spec, D6; log 15). -/
opaque settleSlack : Nat

/-! Timing parameters, in microseconds (R10, R198; log 15). -/

/-- `T_SEL`. -/
def tSelMicros : Nat := block.tSel
/-- `T_OFF`. -/
def tOffMicros : Nat := block.tOff
/-- `T_CMD`. -/
def tCmdMicros : Nat := block.tCmd
/-- `T_WINDOW`, an upper bound on `T_SETTLE`. -/
def tWindowMicros : Nat := block.tWindow
/-- `T_SETTLE`: any value with `0 < T_SETTLE < T_WINDOW` (R10). -/
def tSettleMicros : Nat := settleSlack % (tWindowMicros - 1) + 1

end Config

end Sys2Proof
end

