-- ==== Sys2Proof/Syntax.lean ====
section
/-! DEFINITION. The instructions, one constructor per row of spec/opcode_table.json, and the two kinds of word
they are written in: a command on the host's command port (30_encoding.md R78 to R81) and a frame on the bus
(R65 to R69, R82). -/

namespace Sys2Proof

/-- One row of the opcode table each. An operation carries its operands as the syntax of 30_encoding.md R85 does;
a reserved row carries the header bits its mask leaves free; a bus frame carries the bytes its row leaves free. -/
inductive Instr
  /-- RDRAW `reg` (40_raw_read.md R90). -/
  | rdraw (reg : Byte)
  /-- ZCAP `raw` (41_calibration.md R100). -/
  | zcap (raw : U16)
  /-- CALLD `raw_loaded, known_force` (R101). -/
  | calld (rawLoaded : U16) (knownForce : Num)
  /-- FCONV `raw` (R102). -/
  | fconv (raw : U16)
  /-- SETCAL `zero_offset, sensitivity` (R103). -/
  | setcal (zeroOffset : U16) (sensitivity : Num)
  /-- CHADDR `new_address` (42_address_change.md R116). -/
  | chaddr (newAddress : U7)
  /-- RDFORCE (43_composition.md R142). -/
  | rdforce
  /-- CALIB (R144). -/
  | calib
  /-- Header 0x00 (R81). -/
  | reserved00
  /-- Header 0x09 (R81). -/
  | reserved09
  /-- Headers 0x0A and 0x0B; `b` is header bit 0 (R81). -/
  | reserved0A0B (b : BitVec 1)
  /-- Headers 0x0C to 0x0F; `x` is header bits [1:0] (R81). -/
  | reserved0C0F (x : BitVec 2)
  /-- Any header with bit 4 set; `hi` is bits [7:5], `lo` bits [3:0] (R81). -/
  | reservedBit4 (hi : BitVec 3) (lo : BitVec 4)
  /-- A header with bit 5 set and bit 4 clear; `hi` is bits [7:6], `lo` bits [3:0] (R81; log 11). -/
  | reservedBit5 (hi : BitVec 2) (lo : BitVec 4)
  /-- A header with bit 6 set and bits [5:4] clear; `hi` is bit 7, `lo` bits [3:0] (R81; log 11). -/
  | reservedBit6 (hi : BitVec 1) (lo : BitVec 4)
  /-- A header with bit 7 set and bits [6:4] clear; `lo` is bits [3:0] (R81; log 11). -/
  | reservedBit7 (lo : BitVec 4)
  /-- SEL_FORCE: the one-byte register select; 0x06 in the documented use, in general `T_REG` (R65, R91). -/
  | busSelForce (reg : Byte)
  /-- RD_FORCE: the 2-byte block read; of 0x06 in the documented use, in general of `T_REG` (R66, R93). -/
  | busRdForce (reg : Byte)
  /-- ENTER_CM (R69, R119). -/
  | busEnterCm
  /-- REQ_WORD2 (R69, R120). -/
  | busReqWord2
  /-- FETCH_WORD: the 3-byte block read of register 0x00 (R69, R121). -/
  | busFetchWord
  /-- WRITE_WORD2 with payload bytes `h`, `l` (R69, R124). -/
  | busWriteWord2 (h l : Byte)
  /-- EXIT_CM (R69, R125). -/
  | busExitCm
  /-- PIN: drive the power-control line to `v` (R82, R118). -/
  | busPin (v : BitVec 1)
  deriving DecidableEq, Repr

/-- What the host presents on the command port: the header byte and the operand ports (R78, R80). -/
structure HostCmd where
  /-- `CMD_HDR` -/
  hdr : Byte
  /-- `OPD_REG` -/
  opdReg : Byte := 0
  /-- `OPD_RAW` -/
  opdRaw : U16 := 0
  /-- `OPD_NUM` -/
  opdNum : Num := Config.toNum 0
  /-- `OPD_ADDR` -/
  opdAddr : U7 := 0
  deriving DecidableEq, Repr

/-- A bus frame in one of the formats of R65 to R67, or a level of the power-control line (R82). -/
inductive Frame
  /-- Format `SEL`: one byte written, the register (R65). -/
  | sel (reg : Byte)
  /-- Format `RD`: a read of `n` bytes from a register (R66). -/
  | rd (reg : Byte) (n : Nat)
  /-- Format `WR3`: a command byte and two payload bytes (R67). -/
  | wr3 (cmd p0 p1 : Byte)
  /-- The power-control line, low (0) or high (1) (R82). -/
  | pin (level : BitVec 1)
  deriving DecidableEq, Repr

/-- The words an instruction is written in: a host command or a bus frame (R64). -/
inductive Code
  | host (c : HostCmd)
  | bus (f : Frame)
  deriving DecidableEq, Repr

end Sys2Proof
end

