-- ==== Sys2Proof/Machine/State.lean ====
section
/-! DEFINITION. The state of the block as plain data: the registers of 10_state.md R15 to R24, the outputs of
20_memory.md R49 and 10_state.md R26 as logs, the environment's inputs as lists, and the state after reset (R34). -/

namespace Sys2Proof.Machine

/-- `SEQ_OP`: the running operation, or Idle (10_state.md R22). -/
inductive SeqOp
  | idle | rdraw | zcap | calld | fconv | setcal | chaddr | rdforce | calib
  deriving DecidableEq, Repr

/-- `STATUS` of a completion record (10_state.md R26, 60_exceptions.md R157). -/
inductive Status
  | ok | transportError | degenerateCalibration | protocolAborted | illegalCommand
  deriving DecidableEq, Repr

/-- The completion record (10_state.md R26). A result field is `none` where the operation does not define it
(93_implementation_defined.md U14). -/
structure Completion where
  status : Status
  warnAck : Bool
  failStep : BitVec 4
  resRaw : Option U16
  resNum : Option Num
  deriving DecidableEq, Repr

/-- Whether a primitive of the trace completed or is marked `FAILED` (20_memory.md R49). -/
inductive Mark
  | completed | failed
  deriving DecidableEq, Repr

/-- The four durations ever waited for (60_exceptions.md R173). -/
inductive Delay
  | tSel | tOff | tSettle | tCmd
  deriving DecidableEq, Repr

/-- One event of the trace (20_memory.md R49). -/
inductive Event
  /-- `SEL(dev, reg)` -/
  | sel (dev : U7) (reg : Byte) (mark : Mark)
  /-- `RD(dev, reg, n) = reply`; `none` is `FAILED` -/
  | rd (dev : U7) (reg : Byte) (n : Nat) (reply : Option (List Byte))
  /-- `WR(dev, cmd, [p0, p1])` -/
  | wr (dev : U7) (cmd p0 p1 : Byte) (mark : Mark)
  /-- `PIN(level)` -/
  | pin (level : BitVec 1) (mark : Mark)
  /-- `WAIT(t)`; it cannot fail -/
  | wait (d : Delay)
  deriving DecidableEq, Repr

/-- The oracle's draw for one `SEL`, `RD`, `WR` or `PIN` (20_memory.md R50): it completes, delivering bytes (used by a
read only), or it fails. -/
inductive Answer
  | complete (bytes : List Byte)
  | fail
  deriving DecidableEq, Repr

/-- One reply on the capture port: `CAP_RAW` and `CAP_NUM` (43_composition.md R145); `num` is ignored for kind 0. -/
structure Sample where
  raw : U16
  num : Num
  deriving DecidableEq, Repr

/-- The state of the block and of its boundary. -/
structure State where
  /-- `DEV_ADDR` (10_state.md R16) -/
  devAddr : U7
  /-- `ZERO_OFFSET` (R17) -/
  zeroOffset : U16
  /-- `SENS` (R18) -/
  sens : Num
  /-- `PWR`: 1 is high, 0 is low (R20) -/
  pwr : BitVec 1
  /-- `BUSY` (R21) -/
  busy : Bool
  /-- `SEQ_OP` (R22) -/
  seqOp : SeqOp
  /-- `SEQ_STEP` (R22) -/
  seqStep : BitVec 4
  /-- `SEQ_SUB` (R22) -/
  seqSub : BitVec 2
  /-- `T_REG` (R24) -/
  tReg : Byte
  /-- `B0` (R24) -/
  b0 : Byte
  /-- `B1` (R24) -/
  b1 : Byte
  /-- `T_OLD` (R24) -/
  tOld : U7
  /-- `T_NEW` (R24) -/
  tNew : U7
  /-- `F0` (R24) -/
  f0 : Byte
  /-- `F1` (R24) -/
  f1 : Byte
  /-- `F2` (R24) -/
  f2 : Byte
  /-- `WORD` (R24) -/
  word : U16
  /-- `NEW_WORD` (R24) -/
  newWord : U16
  /-- `W_ACK` (R24, R27) -/
  wAck : Bool
  /-- `T_RAW` (R24) -/
  tRaw : U16
  /-- `T_NUM` (R24) -/
  tNum : Num
  /-- The trace so far, oldest event first (20_memory.md R49; log 17) -/
  trace : List Event
  /-- The completion records delivered so far, oldest first (10_state.md R26; log 17) -/
  records : List Completion
  /-- What the host presents on the command port, in order (30_encoding.md R78; log 3) -/
  commands : List HostCmd
  /-- The oracle's draws still to come; empty while the transport has not answered (20_memory.md R50; log 2) -/
  answers : List Answer
  /-- The capture source's replies still to come (43_composition.md R145; log 10) -/
  samples : List Sample
  deriving DecidableEq, Repr

/-- Why a step could stop with a fault. The block has no fault and no stuck state of its own (60_exceptions.md R178),
so there is no constructor: no step can fault, which is exact. -/
inductive Fault
  deriving DecidableEq, Repr

/-- Why a step could refuse an instruction. -/
inductive Refusal
  /-- Raised only by an arm of `exec` for a row of the opcode table that has no meaning; no arm raises it now. Safe. -/
  | notModelled (mnemonic : String)
  deriving DecidableEq, Repr

/-- The state right after a handle is constructed at an address (10_state.md R34, R36). The transient registers are
unspecified there and never read before written; they hold zero (DESIGN CHOICE, unsafe; log 7). -/
def State.construct (address : U7) : State where
  devAddr := address
  zeroOffset := 0
  sens := Config.numOne
  pwr := 1
  busy := false
  seqOp := .idle
  seqStep := 0
  seqSub := 0
  tReg := 0
  b0 := 0
  b1 := 0
  tOld := 0
  tNew := 0
  f0 := 0
  f1 := 0
  f2 := 0
  word := 0
  newWord := 0
  wAck := false
  tRaw := 0
  tNum := Config.toNum 0
  trace := []
  records := []
  commands := []
  answers := []
  samples := []

/-- The machine right after reset (R34, 70_reset_and_hazards.md R180): constructed at the address the implementation
was given, for which the spec has no default (log 5). -/
def State.reset : State :=
  State.construct Config.deviceAddress

end Sys2Proof.Machine
end

