-- ==== Sys2Proof/Machine/Flags.lean ====
section
/-! DEFINITION. Every flag-like value of the block (10_state.md R27): the acknowledgement warning, the degenerate test,
the status codes, and the handshake signals of the command and capture ports. There are no arithmetic flags. -/

namespace Sys2Proof.Machine

open Sys2Proof.Config

/-- `F0 ≠ 0x5A`, on all 8 bits (42_address_change.md R122). -/
def ackMismatch (f0 : Byte) : Bool :=
  f0 != ackExpected

/-- `raw_loaded == ZERO_OFFSET` as `u16` values (41_calibration.md R108). -/
def degenerate (rawLoaded zeroOffset : U16) : Bool :=
  rawLoaded == zeroOffset

/-- `WARN_ACK` of the record of the running operation: `W_ACK` for CHADDR, 0 for every other (10_state.md R26, R27). -/
def reportedWarning (s : State) : Bool :=
  match s.seqOp with
  | .chaddr => s.wAck
  | .idle => false
  | .rdraw => false
  | .zcap => false
  | .calld => false
  | .fconv => false
  | .setcal => false
  | .rdforce => false
  | .calib => false

/-- The 3-bit code of a status (60_exceptions.md R157). -/
def Status.code : Status → BitVec 3
  | .ok => 0
  | .transportError => 1
  | .degenerateCalibration => 2
  | .protocolAborted => 3
  | .illegalCommand => 5

/-- `CMD_READY = NOT BUSY` (30_encoding.md R78). -/
def State.cmdReady (s : State) : Bool :=
  !s.busy

/-- `CMD_VALID`: the host presents a command (R78). -/
def State.cmdValid (s : State) : Bool :=
  !s.commands.isEmpty

/-- `CAP_REQ`: CALIB is at a step that wants a sample (43_composition.md R145). -/
def State.capReq (s : State) : Bool :=
  s.seqOp == .calib && (s.seqStep == 1 || s.seqStep == 3)

/-- `CAP_KIND`: 0 for the unloaded sample, 1 for the loaded one, while `CAP_REQ` is asserted (R145). The spec gives it no
value while `CAP_REQ` is not asserted; the model gives it none then (DESIGN CHOICE; log 10). -/
def State.capKind (s : State) : Option (BitVec 1) :=
  if s.capReq then some (if s.seqStep = 3 then 1 else 0) else none

end Sys2Proof.Machine
end

