-- ==== Sys2Proof/Machine/Operands.lean ====
section
/-! DEFINITION. How operand values are put together: the byte order of replies and payloads (20_memory.md R51), the
configuration word and its patch (30_encoding.md R70 to R76), and the calibration arithmetic (41_calibration.md R99 to
R102). -/

namespace Sys2Proof.Machine

open Sys2Proof.Config

/-- `(b0 << 8) | b1`: a raw reading from its two reply bytes, first byte high (R70, R94). -/
def rawReading (b0 b1 : Byte) : U16 :=
  (b0.setWidth 16 <<< 8) ||| b1.setWidth 16

/-- `(F0 << 8) | F2`: the configuration word from the fetch reply; the middle byte is not used (R71, R121, C1; log 20). -/
def fetchedWord (f0 f2 : Byte) : U16 :=
  (f0.setWidth 16 <<< 8) ||| f2.setWidth 16

/-- `(word & 0x8007) | (new_address << 3) | (0b011 << 10)` (R123; bits [14:13] are cleared, C3; log 20). -/
def patchWord (w : U16) (newAddress : U7) : U16 :=
  (w &&& keepMask) ||| (newAddress.setWidth 16 <<< 3) ||| (modeTag.setWidth 16 <<< 10)

/-- `wordHigh`, the first payload byte of WRITE_WORD2 (R72). -/
def highByte (w : U16) : Byte :=
  w.extractLsb' 8 8

/-- `wordLow`, the second payload byte of WRITE_WORD2 (R72). -/
def lowByte (w : U16) : Byte :=
  w.extractLsb' 0 8

/-- `DIFF(r) = r − ZERO_OFFSET`, an exact integer, never modular (R99). -/
def diff (raw zeroOffset : U16) : Int :=
  (raw.toNat : Int) - (zeroOffset.toNat : Int)

/-- `toNum(raw − ZERO_OFFSET) × SENS` (R102). -/
def forceOf (raw zeroOffset : U16) (sens : Num) : Num :=
  numMul (toNum (diff raw zeroOffset)) sens

/-- `known_force / toNum(raw_loaded − ZERO_OFFSET)` (R101). -/
def sensitivityOf (knownForce : Num) (rawLoaded zeroOffset : U16) : Num :=
  numDiv knownForce (toNum (diff rawLoaded zeroOffset))

/-- The duration of a wait, a lower bound, in microseconds (00_scope.md R10). -/
def Delay.micros : Delay → Nat
  | .tSel => tSelMicros
  | .tOff => tOffMicros
  | .tSettle => tSettleMicros
  | .tCmd => tCmdMicros

/-- The least time an event takes by the waits alone (70_reset_and_hazards.md R200). -/
def Event.minMicros : Event → Nat
  | .sel _ _ _ => 0
  | .rd _ _ _ _ => 0
  | .wr _ _ _ _ _ => 0
  | .pin _ _ => 0
  | .wait d => d.micros

end Sys2Proof.Machine
end

