-- ==== Sys2Proof/Machine/Ops.lean ====
section
/-! DEFINITION. The shared operations: the updates of State, the advance of the control position (10_state.md R23),
ending an operation normally or by an error (60_exceptions.md R158 to R161), and the five primitives
(20_memory.md R45 to R48). -/

namespace Sys2Proof.Machine

/-! ## Updates -/

/-- Append an event to the trace (R49). -/
def State.emit (s : State) (e : Event) : State :=
  { s with trace := s.trace ++ [e] }

/-- The transport's next answer has been used. -/
def State.dropAnswer (s : State) : State :=
  { s with answers := s.answers.tail }

/-- The capture source's next sample has been used. -/
def State.dropSample (s : State) : State :=
  { s with samples := s.samples.tail }

/-- The command on the port has been accepted (30_encoding.md R78). -/
def State.dropCommand (s : State) : State :=
  { s with commands := s.commands.tail }

/-- Set the control position inside the running operation. -/
def State.goTo (s : State) (step : BitVec 4) (sub : BitVec 2) : State :=
  { s with seqStep := step, seqSub := sub }

/-- Accept an operation: `BUSY <- 1; SEQ_OP <- op; SEQ_STEP <- 1; SEQ_SUB <- 0` (10_state.md R21, R23). -/
def State.start (s : State) (op : SeqOp) : State :=
  { s with busy := true, seqOp := op, seqStep := 1, seqSub := 0 }

/-- Deliver the completion record and go to Idle (10_state.md R21, R23). `SEQ_STEP` and `SEQ_SUB` take their reset
values (DEDUCED, unsafe; log 8). -/
def State.deliver (s : State) (c : Completion) : State :=
  { s with records := s.records ++ [c], busy := false, seqOp := .idle, seqStep := 0, seqSub := 0 }

/-! ## Ending an operation -/

/-- The record of a normal completion that carries the results given (R26). -/
def okRecord (s : State) (resRaw : Option U16) (resNum : Option Num) : Completion :=
  { status := .ok, warnAck := reportedWarning s, failStep := 0, resRaw := resRaw, resNum := resNum }

/-- Complete the running operation with `STATUS = OK` (R23, R26). -/
def State.complete (s : State) (resRaw : Option U16) (resNum : Option Num) : State :=
  s.deliver (okRecord s resRaw resNum)

/-- `raise X`: an error ends the running operation at once (60_exceptions.md R158 to R161). The record carries the
status, `W_ACK` as it stands and the step; no result; nothing is undone. With no operation running there is nothing
to end (log 12). -/
def State.raiseError (s : State) (status : Status) (failStep : BitVec 4) : State :=
  if s.seqOp = .idle then s
  else s.deliver
    { status := status, warnAck := reportedWarning s, failStep := failStep, resRaw := none, resNum := none }

/-- How a transport failure is reported: `ProtocolAborted` inside CHADDR, `TransportError` elsewhere
(60_exceptions.md R153, R156). -/
def transportStatus (op : SeqOp) : Status :=
  if op = .chaddr then .protocolAborted else .transportError

/-- A primitive failed: `FAIL_STEP` is the step in progress (R153, R156, R161). -/
def State.raiseTransport (s : State) : State :=
  s.raiseError (transportStatus s.seqOp) s.seqStep

/-- The degenerate test held: `FAIL_STEP = 0` (60_exceptions.md R154). -/
def State.raiseDegenerate (s : State) : State :=
  s.raiseError .degenerateCalibration 0

/-- A reserved header: accepted, no state change, empty trace, a record with `STATUS = IllegalCommand`
(30_encoding.md R81, 60_exceptions.md R164). While busy no header is accepted (R78; log 18). -/
def illegalCommand (s : State) : State :=
  if s.busy then s
  else { s with records := s.records ++
    [{ status := .illegalCommand, warnAck := false, failStep := 0, resRaw := none, resNum := none }] }

/-! ## The control position -/

/-- The last `SEQ_SUB` of a step: four events in CHADDR's power cycles, a write and a wait in its command steps, one
event elsewhere (10_state.md R22). -/
def lastSub (op : SeqOp) (step : BitVec 4) : BitVec 2 :=
  if op = .chaddr then
    if step = 1 ∨ step = 8 then 3
    else if step = 2 ∨ step = 3 ∨ step = 6 ∨ step = 7 then 1
    else 0
  else 0

/-- The last `SEQ_STEP` of an operation (10_state.md R22, 43_composition.md R142, R144). -/
def lastStep : SeqOp → BitVec 4
  | .idle => 0
  | .rdraw => 4
  | .zcap => 1
  | .calld => 1
  | .fconv => 1
  | .setcal => 1
  | .chaddr => 8
  | .rdforce => 5
  | .calib => 4

/-- How the control position advances after an event or a computation (10_state.md R23): the next sub-position, or the
first of the next step, or, after the last step, completion. With no operation running it stays (log 12). -/
def State.advance (s : State) : State :=
  if s.seqOp = .idle then s
  else if s.seqSub ≠ lastSub s.seqOp s.seqStep then s.goTo s.seqStep (s.seqSub + 1)
  else if s.seqStep ≠ lastStep s.seqOp then s.goTo (s.seqStep + 1) 0
  else s.complete none none

/-! ## The primitives -/

/-- What a primitive call comes to: not answered yet, failed, or completed with the bytes delivered. -/
inductive Attempt
  /-- The transport has not answered: the block stays in its step (60_exceptions.md R170, U6). -/
  | pending
  /-- The call failed; the trace ends with the event marked `FAILED`. -/
  | failed (s : State)
  /-- The call completed. -/
  | done (reply : List Byte) (s : State)
  deriving DecidableEq, Repr

/-- Take the transport's answer to a call that delivers no bytes, and record the event (R49, R50). -/
def transact (event : Mark → Event) (s : State) : Attempt :=
  match s.answers with
  | [] => .pending
  | .fail :: _ => .failed (s.dropAnswer.emit (event .failed))
  | .complete _ :: _ => .done [] (s.dropAnswer.emit (event .completed))

/-- `BusSel(dev, reg)` (20_memory.md R45). -/
def busSel (dev : U7) (reg : Byte) (s : State) : Attempt :=
  transact (.sel dev reg) s

/-- `BusRead(dev, reg, n)` (R46): exactly `n` bytes in arrival order; fewer is a failure (of more, the first `n` are
taken; log 14). -/
def busRead (dev : U7) (reg : Byte) (n : Nat) (s : State) : Attempt :=
  match s.answers with
  | [] => .pending
  | .fail :: _ => .failed (s.dropAnswer.emit (.rd dev reg n none))
  | .complete bytes :: _ =>
    if bytes.length < n then .failed (s.dropAnswer.emit (.rd dev reg n none))
    else .done (bytes.take n) (s.dropAnswer.emit (.rd dev reg n (some (bytes.take n))))

/-- `BusWrite(dev, cmd, [p0, p1])` (R47). -/
def busWrite (dev : U7) (cmd p0 p1 : Byte) (s : State) : Attempt :=
  transact (.wr dev cmd p0 p1) s

/-- Record the level driven. -/
def State.setPwr (s : State) (level : BitVec 1) : State :=
  { s with pwr := level }

/-- `PinWrite(level)` (R48): sets `PWR` when it completes; a failed one leaves `PWR` as it was. -/
def pinWrite (level : BitVec 1) (s : State) : Attempt :=
  match transact (.pin level) s with
  | .pending => .pending
  | .failed t => .failed t
  | .done reply t => .done reply (t.setPwr level)

/-- `Wait(t)` (R48): it touches no bus and no pin and cannot fail (log 15). -/
def waitFor (d : Delay) (s : State) : State :=
  s.emit (.wait d)

/-- Go on after a call: hold in the same state while it is not answered, raise the transport error if it failed, use
the reply if it completed. -/
def Attempt.settle (a : Attempt) (s : State) (use : List Byte → State → State) : State :=
  match a with
  | .pending => s
  | .failed t => t.raiseTransport
  | .done reply t => use reply t

end Sys2Proof.Machine
end

