-- ==== Sys2Proof/Machine/Frames.lean ====
section
/-! DEFINITION. The rows of the opcode table that are bus events: each is one call of a primitive, addressed by the
running operation's device address, with what the step does with the answer and the advance of the control position
(log 12). The first half is shared with the sequencer; the second half is one meaning per row. -/

namespace Sys2Proof.Machine

open Sys2Proof.Config

/-- Issue a register select to `DEV_ADDR` (40_raw_read.md R91). -/
def issueSel (reg : Byte) (s : State) : State :=
  (busSel s.devAddr reg s).settle s fun _ t => t.advance

/-- Latch the two bytes of a raw read as `B0`, `B1`, first to arrive first (R93). -/
def State.latchRaw (s : State) (reply : List Byte) : State :=
  { s with b0 := reply.getD 0 0, b1 := reply.getD 1 0 }

/-- Issue the 2-byte block read of `DEV_ADDR` (R93). -/
def issueRd (reg : Byte) (s : State) : State :=
  (busRead s.devAddr reg 2 s).settle s fun reply t => (t.latchRaw reply).advance

/-- Issue a command write to `T_OLD` (42_address_change.md R131). -/
def issueWr (cmd p0 p1 : Byte) (s : State) : State :=
  (busWrite s.tOld cmd p0 p1 s).settle s fun _ t => t.advance

/-- Latch the fetch reply: `F0`, `F1`, `F2`, `WORD <- (F0 << 8) | F2`, and `W_ACK <- 1` on a wrong ack byte, which does
not change the advance (R121, R122). -/
def State.latchFetch (s : State) (reply : List Byte) : State :=
  { s with
    f0 := reply.getD 0 0
    f1 := reply.getD 1 0
    f2 := reply.getD 2 0
    word := fetchedWord (reply.getD 0 0) (reply.getD 2 0)
    wAck := s.wAck || ackMismatch (reply.getD 0 0) }

/-- Issue the 3-byte fetch read of register 0x00 at `T_OLD` (R121). -/
def issueFetch (s : State) : State :=
  (busRead s.tOld regFetch 3 s).settle s fun reply t => (t.latchFetch reply).advance

/-- Drive the power-control line (R118, R126). -/
def issuePin (level : BitVec 1) (s : State) : State :=
  (pinWrite level s).settle s fun _ t => t.advance

/-! ## One meaning per row -/

/-- SEL_FORCE (30_encoding.md R69, 40_raw_read.md R91). -/
def execBusSelForce (reg : Byte) (s : State) : Host.Outcome State Fault Refusal :=
  .next (issueSel reg s)

/-- RD_FORCE (30_encoding.md R69, 40_raw_read.md R93). -/
def execBusRdForce (reg : Byte) (s : State) : Host.Outcome State Fault Refusal :=
  .next (issueRd reg s)

/-- ENTER_CM (42_address_change.md R119). -/
def execBusEnterCm (s : State) : Host.Outcome State Fault Refusal :=
  .next (issueWr cmdEnter 0 0 s)

/-- REQ_WORD2 (R120). -/
def execBusReqWord2 (s : State) : Host.Outcome State Fault Refusal :=
  .next (issueWr cmdReqWord2 0 0 s)

/-- FETCH_WORD (R121, R122). -/
def execBusFetchWord (s : State) : Host.Outcome State Fault Refusal :=
  .next (issueFetch s)

/-- WRITE_WORD2 (R124). -/
def execBusWriteWord2 (h l : Byte) (s : State) : Host.Outcome State Fault Refusal :=
  .next (issueWr cmdWriteWord2 h l s)

/-- EXIT_CM (R125). -/
def execBusExitCm (s : State) : Host.Outcome State Fault Refusal :=
  .next (issueWr cmdExit 0 0 s)

/-- PIN (R118, R126, 30_encoding.md R82). -/
def execBusPin (v : BitVec 1) (s : State) : Host.Outcome State Fault Refusal :=
  .next (issuePin v s)

end Sys2Proof.Machine
end

