-- ==== Sys2Proof/Machine/Sequencer.lean ====
section
/-! DEFINITION. The sequencer: the fixed step sequence of each operation as a table from the control position to what
happens there (10_state.md R22, R23), one micro-step, and the run of an operation from acceptance. -/

namespace Sys2Proof.Machine

open Sys2Proof.Config

/-- What the sequencer does at one control position. -/
inductive Micro
  /-- the register select of `T_REG` -/
  | sel
  /-- the 2-byte block read of `T_REG` -/
  | rd
  | enterCm
  | reqWord2
  | fetchWord
  | writeWord2
  | exitCm
  | pin (level : BitVec 1)
  | wait (d : Delay)
  /-- RDRAW step 4: combine and complete with `RES_RAW` -/
  | combineRaw
  /-- RDFORCE step 4: combine and pass the reading on to the conversion -/
  | combineForce
  /-- FCONV step 1 and RDFORCE step 5: convert and complete with `RES_NUM` -/
  | convert
  /-- ZCAP step 1 and CALIB step 2 -/
  | zeroCapture
  /-- CALLD step 1 and CALIB step 4 -/
  | knownLoad
  /-- SETCAL step 1 -/
  | setManual
  /-- CALIB step 1 -/
  | captureZero
  /-- CALIB step 3 -/
  | captureLoad
  /-- CHADDR step 5 -/
  | patch
  /-- no step of any operation; no run reaches it (log 19) -/
  | hold
  deriving DecidableEq, Repr

/-- The four events of a power cycle (42_address_change.md R118, R126; 30_encoding.md R86). -/
def powerCycleAt : Nat → Micro
  | 0 => .pin 0
  | 1 => .wait .tOff
  | 2 => .pin 1
  | 3 => .wait .tSettle
  | _ => .hold

/-- A command write followed by its wait (R119, R120, R124, R125). -/
def commandAt (m : Micro) : Nat → Micro
  | 0 => m
  | 1 => .wait .tCmd
  | _ => .hold

/-- A step of a single event or computation. -/
def singleAt (m : Micro) : Nat → Micro
  | 0 => m
  | _ => .hold

/-- The step sequences: RDRAW (40_raw_read.md R90), ZCAP, CALLD, FCONV, SETCAL (41_calibration.md R100 to R103), CHADDR
(42_address_change.md R116), RDFORCE (43_composition.md R142), CALIB (R144). -/
def microAt (op : SeqOp) (step : BitVec 4) (sub : BitVec 2) : Micro :=
  match op, step.toNat with
  | .rdraw, 1 => singleAt .sel sub.toNat
  | .rdraw, 2 => singleAt (.wait .tSel) sub.toNat
  | .rdraw, 3 => singleAt .rd sub.toNat
  | .rdraw, 4 => singleAt .combineRaw sub.toNat
  | .zcap, 1 => singleAt .zeroCapture sub.toNat
  | .calld, 1 => singleAt .knownLoad sub.toNat
  | .fconv, 1 => singleAt .convert sub.toNat
  | .setcal, 1 => singleAt .setManual sub.toNat
  | .chaddr, 1 => powerCycleAt sub.toNat
  | .chaddr, 2 => commandAt .enterCm sub.toNat
  | .chaddr, 3 => commandAt .reqWord2 sub.toNat
  | .chaddr, 4 => singleAt .fetchWord sub.toNat
  | .chaddr, 5 => singleAt .patch sub.toNat
  | .chaddr, 6 => commandAt .writeWord2 sub.toNat
  | .chaddr, 7 => commandAt .exitCm sub.toNat
  | .chaddr, 8 => powerCycleAt sub.toNat
  | .rdforce, 1 => singleAt .sel sub.toNat
  | .rdforce, 2 => singleAt (.wait .tSel) sub.toNat
  | .rdforce, 3 => singleAt .rd sub.toNat
  | .rdforce, 4 => singleAt .combineForce sub.toNat
  | .rdforce, 5 => singleAt .convert sub.toNat
  | .calib, 1 => singleAt .captureZero sub.toNat
  | .calib, 2 => singleAt .zeroCapture sub.toNat
  | .calib, 3 => singleAt .captureLoad sub.toNat
  | .calib, 4 => singleAt .knownLoad sub.toNat
  | _, _ => .hold

/-- What the sequencer does next. -/
def State.micro (s : State) : Micro :=
  microAt s.seqOp s.seqStep s.seqSub

/-- `ZERO_OFFSET <- raw` (41_calibration.md R100). -/
def State.zeroCapture (s : State) : State :=
  { s with zeroOffset := s.tRaw }

/-- `SENS <- known_force / toNum(raw_loaded − ZERO_OFFSET)` (R101). -/
def State.fitSensitivity (s : State) : State :=
  { s with sens := sensitivityOf s.tNum s.tRaw s.zeroOffset }

/-- `ZERO_OFFSET <- zero_offset; SENS <- sensitivity` (R103). -/
def State.setManual (s : State) : State :=
  { s with zeroOffset := s.tRaw, sens := s.tNum }

/-- The raw reading goes to the conversion of RDFORCE (43_composition.md R142; log 9). -/
def State.passReading (s : State) : State :=
  { s with tRaw := rawReading s.b0 s.b1 }

/-- `NEW_WORD <- (WORD & 0x8007) | (T_NEW << 3) | (0b011 << 10)` (42_address_change.md R123). -/
def State.patch (s : State) : State :=
  { s with newWord := patchWord s.word s.tNew }

/-- CALLD's step, also CALIB's last: the degenerate test precedes the division (R101, 60_exceptions.md R166). -/
def knownLoad (s : State) : State :=
  if degenerate s.tRaw s.zeroOffset then s.raiseDegenerate else s.fitSensitivity.advance

/-- Latch a capture reply: `T_RAW`, `T_NUM` (10_state.md R24). -/
def State.latchSample (s : State) (raw : U16) (num : Num) : State :=
  { s with tRaw := raw, tNum := num }

/-- CALIB step 1: wait for the unloaded sample and latch `CAP_RAW` only (43_composition.md R144, R145). -/
def captureZero (s : State) : State :=
  match s.samples with
  | [] => s
  | x :: _ => (s.dropSample.latchSample x.raw s.tNum).advance

/-- CALIB step 3: wait for the loaded sample and latch `CAP_RAW`, `CAP_NUM` (R144, R145). -/
def captureLoad (s : State) : State :=
  match s.samples with
  | [] => s
  | x :: _ => (s.dropSample.latchSample x.raw x.num).advance

/-- What one micro-step does. -/
def runMicro (m : Micro) (s : State) : State :=
  match m with
  | .sel => issueSel s.tReg s
  | .rd => issueRd s.tReg s
  | .enterCm => issueWr cmdEnter 0 0 s
  | .reqWord2 => issueWr cmdReqWord2 0 0 s
  | .fetchWord => issueFetch s
  | .writeWord2 => issueWr cmdWriteWord2 (highByte s.newWord) (lowByte s.newWord) s
  | .exitCm => issueWr cmdExit 0 0 s
  | .pin level => issuePin level s
  | .wait d => (waitFor d s).advance
  | .combineRaw => s.complete (some (rawReading s.b0 s.b1)) none
  | .combineForce => s.passReading.advance
  | .convert => s.complete none (some (forceOf s.tRaw s.zeroOffset s.sens))
  | .zeroCapture => s.zeroCapture.advance
  | .knownLoad => knownLoad s
  | .setManual => s.setManual.advance
  | .captureZero => captureZero s
  | .captureLoad => captureLoad s
  | .patch => s.patch.advance
  | .hold => s

/-- One micro-step of the running operation. An unanswered primitive or capture leaves the state as it is: the block
holds, BUSY (60_exceptions.md R170, 43_composition.md R145; log 2). -/
def tick (s : State) : State :=
  runMicro s.micro s

/-- `n` micro-steps. -/
def runSeq : Nat → State → State
  | 0, s => s
  | n + 1, s => runSeq n (tick s)

/-- How many micro-steps an operation takes when it meets no error. -/
def seqLength : SeqOp → Nat
  | .idle => 0
  | .rdraw => 4
  | .zcap => 1
  | .calld => 1
  | .fconv => 1
  | .setcal => 1
  | .chaddr => 18
  | .rdforce => 5
  | .calib => 4

/-- Run an operation from acceptance: latch its operands, take the control position of its first step, and run the
sequencer until the operation ends or an unanswered call holds it (10_state.md R23; log 1). While busy no operation is
accepted (30_encoding.md R78; log 18). `latched` is `s` with the operands in the transient registers. -/
def operate (op : SeqOp) (latched s : State) : State :=
  if s.busy then s else runSeq (seqLength op) (latched.start op)

/-- The row of the opcode table that the sequencer issues next, if the next micro-step is a bus event or a drive of the
power-control line. -/
def State.nextFrame (s : State) : Option Instr :=
  match s.micro with
  | .sel => some (.busSelForce s.tReg)
  | .rd => some (.busRdForce s.tReg)
  | .enterCm => some .busEnterCm
  | .reqWord2 => some .busReqWord2
  | .fetchWord => some .busFetchWord
  | .writeWord2 => some (.busWriteWord2 (highByte s.newWord) (lowByte s.newWord))
  | .exitCm => some .busExitCm
  | .pin level => some (.busPin level)
  | .wait _ => none
  | .combineRaw => none
  | .combineForce => none
  | .convert => none
  | .zeroCapture => none
  | .knownLoad => none
  | .setManual => none
  | .captureZero => none
  | .captureLoad => none
  | .patch => none
  | .hold => none

end Sys2Proof.Machine
end

