-- ==== Sys2Proof/Machine/AddressChange.lean ====
section
/-! DEFINITION. The address change, 42_address_change.md. -/

namespace Sys2Proof.Machine

/-- CHADDR's acceptance: `T_OLD <- DEV_ADDR; T_NEW <- new_address; W_ACK <- 0` (R116, 43_composition.md R147). -/
def State.latchAddresses (s : State) (newAddress : U7) : State :=
  { s with tOld := s.devAddr, tNew := newAddress, wAck := false }

/-- CHADDR (R116): the eight steps. -/
def execChaddr (newAddress : U7) (s : State) : Host.Outcome State Fault Refusal :=
  .next (operate .chaddr (s.latchAddresses newAddress) s)

end Sys2Proof.Machine
end

