-- ==== Sys2Proof/Machine/Calibration.lean ====
section
/-! DEFINITION. The calibration arithmetic, 41_calibration.md: none of the four touches the bus. -/

namespace Sys2Proof.Machine

/-- Latch a raw operand: `T_RAW` (10_state.md R24). -/
def State.latchRawOperand (s : State) (raw : U16) : State :=
  { s with tRaw := raw }

/-- Latch a raw operand and a `Num` operand: `T_RAW`, `T_NUM` (10_state.md R24). -/
def State.latchOperands (s : State) (raw : U16) (num : Num) : State :=
  { s with tRaw := raw, tNum := num }

/-- ZCAP (R100). -/
def execZcap (raw : U16) (s : State) : Host.Outcome State Fault Refusal :=
  .next (operate .zcap (s.latchRawOperand raw) s)

/-- CALLD (R101). -/
def execCalld (rawLoaded : U16) (knownForce : Num) (s : State) : Host.Outcome State Fault Refusal :=
  .next (operate .calld (s.latchOperands rawLoaded knownForce) s)

/-- FCONV (R102). -/
def execFconv (raw : U16) (s : State) : Host.Outcome State Fault Refusal :=
  .next (operate .fconv (s.latchRawOperand raw) s)

/-- SETCAL (R103). -/
def execSetcal (zeroOffset : U16) (sensitivity : Num) (s : State) : Host.Outcome State Fault Refusal :=
  .next (operate .setcal (s.latchOperands zeroOffset sensitivity) s)

end Sys2Proof.Machine
end

