-- ==== Sys2Proof/Machine/Reserved.lean ====
section
/-! DEFINITION. The reserved headers, 30_encoding.md R81: accepted, no state change, empty trace, a completion record
with `STATUS = IllegalCommand` (60_exceptions.md R164; log 11). The free header bits have no effect. -/

namespace Sys2Proof.Machine

/-- Header 0x00 (R81). -/
def execReserved00 (s : State) : Host.Outcome State Fault Refusal :=
  .next (illegalCommand s)

/-- Header 0x09 (R81). -/
def execReserved09 (s : State) : Host.Outcome State Fault Refusal :=
  .next (illegalCommand s)

/-- Headers 0x0A and 0x0B (R81). -/
def execReserved0A0B (_b : BitVec 1) (s : State) : Host.Outcome State Fault Refusal :=
  .next (illegalCommand s)

/-- Headers 0x0C to 0x0F (R81). -/
def execReserved0C0F (_x : BitVec 2) (s : State) : Host.Outcome State Fault Refusal :=
  .next (illegalCommand s)

/-- Headers with bit 4 set (R81). -/
def execReservedBit4 (_hi : BitVec 3) (_lo : BitVec 4) (s : State) : Host.Outcome State Fault Refusal :=
  .next (illegalCommand s)

/-- Headers with bit 5 set (R81). -/
def execReservedBit5 (_hi : BitVec 2) (_lo : BitVec 4) (s : State) : Host.Outcome State Fault Refusal :=
  .next (illegalCommand s)

/-- Headers with bit 6 set (R81). -/
def execReservedBit6 (_hi : BitVec 1) (_lo : BitVec 4) (s : State) : Host.Outcome State Fault Refusal :=
  .next (illegalCommand s)

/-- Headers with bit 7 set (R81). -/
def execReservedBit7 (_lo : BitVec 4) (s : State) : Host.Outcome State Fault Refusal :=
  .next (illegalCommand s)

end Sys2Proof.Machine
end

