-- ==== Sys2Proof/Machine/RawReader.lean ====
section
/-! DEFINITION. The raw read, 40_raw_read.md. -/

namespace Sys2Proof.Machine

/-- Latch RDRAW's register operand: `T_REG` (10_state.md R24). -/
def State.latchReg (s : State) (reg : Byte) : State :=
  { s with tReg := reg }

/-- RDRAW (R90): select, wait, read two bytes, combine. -/
def execRdraw (reg : Byte) (s : State) : Host.Outcome State Fault Refusal :=
  .next (operate .rdraw (s.latchReg reg) s)

end Sys2Proof.Machine
end

