-- ==== Sys2Proof/Machine/SensorHandle.lean ====
section
/-! DEFINITION. The composed operations, 43_composition.md. -/

namespace Sys2Proof.Machine

/-- RDFORCE (R142): the raw read of register 0x06, then the conversion (log 9). -/
def execRdforce (s : State) : Host.Outcome State Fault Refusal :=
  .next (operate .rdforce (s.latchReg Config.forceReg) s)

/-- CALIB (R144): unloaded sample, zero capture, loaded sample, known load. It has no operand to latch. -/
def execCalib (s : State) : Host.Outcome State Fault Refusal :=
  .next (operate .calib s s)

end Sys2Proof.Machine
end

