-- ==== Sys2Proof/Machine/Dispatch.lean ====
section
/-! DEFINITION. One arm per constructor of Instr. -/

namespace Sys2Proof.Machine

def exec (i : Instr) (s : State) : Host.Outcome State Fault Refusal :=
  match i with
  | .rdraw reg => Sys2Proof.Machine.execRdraw reg s
  | .zcap raw => Sys2Proof.Machine.execZcap raw s
  | .calld raw num => Sys2Proof.Machine.execCalld raw num s
  | .fconv raw => Sys2Proof.Machine.execFconv raw s
  | .setcal z k => Sys2Proof.Machine.execSetcal z k s
  | .chaddr a => Sys2Proof.Machine.execChaddr a s
  | .rdforce => Sys2Proof.Machine.execRdforce s
  | .calib => Sys2Proof.Machine.execCalib s
  | .reserved00 => Sys2Proof.Machine.execReserved00 s
  | .reserved09 => Sys2Proof.Machine.execReserved09 s
  | .reserved0A0B b => Sys2Proof.Machine.execReserved0A0B b s
  | .reserved0C0F x => Sys2Proof.Machine.execReserved0C0F x s
  | .reservedBit4 hi lo => Sys2Proof.Machine.execReservedBit4 hi lo s
  | .reservedBit5 hi lo => Sys2Proof.Machine.execReservedBit5 hi lo s
  | .reservedBit6 hi lo => Sys2Proof.Machine.execReservedBit6 hi lo s
  | .reservedBit7 lo => Sys2Proof.Machine.execReservedBit7 lo s
  | .busSelForce reg => Sys2Proof.Machine.execBusSelForce reg s
  | .busRdForce reg => Sys2Proof.Machine.execBusRdForce reg s
  | .busEnterCm => Sys2Proof.Machine.execBusEnterCm s
  | .busReqWord2 => Sys2Proof.Machine.execBusReqWord2 s
  | .busFetchWord => Sys2Proof.Machine.execBusFetchWord s
  | .busWriteWord2 h l => Sys2Proof.Machine.execBusWriteWord2 h l s
  | .busExitCm => Sys2Proof.Machine.execBusExitCm s
  | .busPin v => Sys2Proof.Machine.execBusPin v s

end Sys2Proof.Machine
end

