-- ==== Sys2Proof/WellFormed.lean ====
section
/-! DEFINITION. Which instructions the block can carry out as the spec writes them. Operand widths are in the types
of `Instr` (so an address above 0x7F cannot be written, 30_encoding.md R73); what is left to check is the payload of
WRITE_WORD2. -/

namespace Sys2Proof

/-- The shape of every word the block can write: bits [14:13] are `00`, bits [12:10] are `011`; seen in the high
payload byte (42_address_change.md R135; log 26). -/
def writableHighByte (h : Byte) : Bool :=
  h &&& 0x7C#8 == 0x0C#8

/-- The check. Every other row has no combination of operands the spec rules out. -/
def Instr.wellFormed : Instr → Bool
  | .rdraw _ => true
  | .zcap _ => true
  | .calld _ _ => true
  | .fconv _ => true
  | .setcal _ _ => true
  | .chaddr _ => true
  | .rdforce => true
  | .calib => true
  | .reserved00 => true
  | .reserved09 => true
  | .reserved0A0B _ => true
  | .reserved0C0F _ => true
  | .reservedBit4 _ _ => true
  | .reservedBit5 _ _ => true
  | .reservedBit6 _ _ => true
  | .reservedBit7 _ => true
  | .busSelForce _ => true
  | .busRdForce _ => true
  | .busEnterCm => true
  | .busReqWord2 => true
  | .busFetchWord => true
  | .busWriteWord2 h _ => writableHighByte h
  | .busExitCm => true
  | .busPin _ => true

end Sys2Proof
end

