-- ==== Sys2Proof/Decode.lean ====
section
/-! DEFINITION. The host command decoder and the bus frame reader, the encoder beside them, and the opcode table's
numbering of words. The decoder is total: every one of the 256 headers selects a row (30_encoding.md R88), and a frame
the block never emits is rejected by name (R68). -/

namespace Sys2Proof

open Sys2Proof.Config

/-- Why a frame is no row of the table. -/
inductive DecodeError
  /-- Byte 0 of a `WR3` frame is none of the four command bytes (R68). -/
  | unknownCommandByte (cmd : Byte)
  /-- A command whose payload is fixed at zero has another payload (R69). -/
  | payloadNotZero (cmd p0 p1 : Byte)
  /-- A read whose length and register no operation uses (20_memory.md R53). -/
  | readShapeUnused (reg : Byte) (n : Nat)
  deriving DecidableEq, Repr

/-- The header of a reserved encoding with bit 4, 5, 6 or 7 set, lowest set bit first (R81, R88; log 11). -/
def decodeReservedHigh (h : Byte) : Instr :=
  if h.getLsbD 4 then .reservedBit4 (h.extractLsb' 5 3) (h.extractLsb' 0 4)
  else if h.getLsbD 5 then .reservedBit5 (h.extractLsb' 6 2) (h.extractLsb' 0 4)
  else if h.getLsbD 6 then .reservedBit6 (h.extractLsb' 7 1) (h.extractLsb' 0 4)
  else .reservedBit7 (h.extractLsb' 0 4)

/-- The host command decoder (R78 to R81): `CMD_HDR[7:4]` must be zero, `CMD_HDR[3:0]` is the opcode, and the ports an
operation does not list are ignored (R80). -/
def decodeHost (c : HostCmd) : Instr :=
  if c.hdr.extractLsb' 4 4 = 0#4 then
    match (c.hdr.extractLsb' 0 4).toNat with
    | 0 => .reserved00
    | 1 => .rdraw c.opdReg
    | 2 => .zcap c.opdRaw
    | 3 => .calld c.opdRaw c.opdNum
    | 4 => .fconv c.opdRaw
    | 5 => .setcal c.opdRaw c.opdNum
    | 6 => .chaddr c.opdAddr
    | 7 => .rdforce
    | 8 => .calib
    | 9 => .reserved09
    | 10 => .reserved0A0B (c.hdr.extractLsb' 0 1)
    | 11 => .reserved0A0B (c.hdr.extractLsb' 0 1)
    | _ => .reserved0C0F (c.hdr.extractLsb' 0 2)
  else decodeReservedHigh c.hdr

/-- A command whose payload is fixed at `[0x00, 0x00]` (R69). -/
def decodeZeroPayload (i : Instr) (cmd p0 p1 : Byte) : Except DecodeError Instr :=
  if p0 = 0#8 ∧ p1 = 0#8 then .ok i else .error (.payloadNotZero cmd p0 p1)

/-- The row a bus frame belongs to (R65 to R69, R82). -/
def decodeFrame : Frame → Except DecodeError Instr
  | .sel reg => .ok (.busSelForce reg)
  | .rd reg n =>
    if n = 2 then .ok (.busRdForce reg)
    else if n = 3 ∧ reg = regFetch then .ok .busFetchWord
    else .error (.readShapeUnused reg n)
  | .wr3 cmd p0 p1 =>
    if cmd = cmdWriteWord2 then .ok (.busWriteWord2 p0 p1)
    else if cmd = cmdEnter then decodeZeroPayload .busEnterCm cmd p0 p1
    else if cmd = cmdReqWord2 then decodeZeroPayload .busReqWord2 cmd p0 p1
    else if cmd = cmdExit then decodeZeroPayload .busExitCm cmd p0 p1
    else .error (.unknownCommandByte cmd)
  | .pin level => .ok (.busPin level)

/-- The decoder: a host command or a bus frame to its row (R64). -/
def decode : Code → Except DecodeError Instr
  | .host c => .ok (decodeHost c)
  | .bus f => decodeFrame f

/-- The encoder (R69, R79 to R82): the words of an instruction. Ports an operation does not list carry zero. -/
def encode : Instr → Code
  | .rdraw reg => .host { hdr := 0x01, opdReg := reg }
  | .zcap raw => .host { hdr := 0x02, opdRaw := raw }
  | .calld raw force => .host { hdr := 0x03, opdRaw := raw, opdNum := force }
  | .fconv raw => .host { hdr := 0x04, opdRaw := raw }
  | .setcal z k => .host { hdr := 0x05, opdRaw := z, opdNum := k }
  | .chaddr a => .host { hdr := 0x06, opdAddr := a }
  | .rdforce => .host { hdr := 0x07 }
  | .calib => .host { hdr := 0x08 }
  | .reserved00 => .host { hdr := 0x00 }
  | .reserved09 => .host { hdr := 0x09 }
  | .reserved0A0B b => .host { hdr := 0b0000101#7 ++ b }
  | .reserved0C0F x => .host { hdr := 0b000011#6 ++ x }
  | .reservedBit4 hi lo => .host { hdr := hi ++ 0b1#1 ++ lo }
  | .reservedBit5 hi lo => .host { hdr := hi ++ 0b10#2 ++ lo }
  | .reservedBit6 hi lo => .host { hdr := hi ++ 0b100#3 ++ lo }
  | .reservedBit7 lo => .host { hdr := 0b1000#4 ++ lo }
  | .busSelForce reg => .bus (.sel reg)
  | .busRdForce reg => .bus (.rd reg 2)
  | .busEnterCm => .bus (.wr3 cmdEnter 0 0)
  | .busReqWord2 => .bus (.wr3 cmdReqWord2 0 0)
  | .busFetchWord => .bus (.rd regFetch 3)
  | .busWriteWord2 h l => .bus (.wr3 cmdWriteWord2 h l)
  | .busExitCm => .bus (.wr3 cmdExit 0 0)
  | .busPin v => .bus (.pin v)

/-- The bytes a frame writes to the device, in transmission order (R65, R67). A pin level writes none. Whether a read puts
its register byte on the wire is left to the transport (20_memory.md R46, D20): that this list is empty for a read is
the model's choice (DESIGN CHOICE; log 27), and no step of the machine uses it. -/
def Frame.written : Frame → List Byte
  | .sel reg => [reg]
  | .rd _ _ => []
  | .wr3 cmd p0 p1 => [cmd, p0, p1]
  | .pin _ => []

/-- A `WR3` frame from its 24-bit pattern: byte 0 in bits [23:16], byte 1 in [15:8], byte 2 in [7:0] (R67). -/
def frameOfBits24 (x : BitVec 24) : Frame :=
  .wr3 (x.extractLsb' 16 8) (x.extractLsb' 8 8) (x.extractLsb' 0 8)

/-- The words that a number of the opcode table stands for (log 13): 8 bits are a header on the command port with
every operand port zero, 24 bits are a `WR3` frame, 1 bit is a level of the power-control line. The one-byte register
rows SEL_FORCE, RD_FORCE and FETCH_WORD share their numbers with headers, and the header is what the block decodes. -/
def codeOfTableWord (nbits w : Nat) : Option Code :=
  if nbits = 8 then some (.host { hdr := BitVec.ofNat 8 w })
  else if nbits = 24 then some (.bus (frameOfBits24 (BitVec.ofNat 24 w)))
  else if nbits = 1 then some (.bus (.pin (BitVec.ofNat 1 w)))
  else none

/-- The instruction the decoder reads from a word of the opcode table; none where it refuses. -/
def decodeTableWord (nbits w : Nat) : Option Instr :=
  match codeOfTableWord nbits w with
  | none => none
  | some c => (decode c).toOption

end Sys2Proof
end

