-- ==== Sys2Proof/Machine/Fetch.lean ====
section
/-! DEFINITION. What the block executes next: while busy, the row at the control position; while idle, the command the
host presents (30_encoding.md R78). Also how a word of the opcode table is put in that place (log 3, log 13). -/

namespace Sys2Proof.Machine

/-- The next instruction and the state it runs on: while busy the frame the sequencer issues; while idle the command on
the port, accepted and so taken off it. None while the sequencer is at a wait, a capture or a computation, and none
while idle with no command (70_reset_and_hazards.md R181). -/
def fetch (s : State) : Option (Instr × State) :=
  if s.busy then
    match s.nextFrame with
    | none => none
    | some i => some (i, s)
  else
    match s.commands with
    | [] => none
    | c :: _ => some (decodeHost c, s.dropCommand)

/-- A step that runs no row of the table: a wait, a capture or a computation of the running operation, or nothing while
the block is idle and no command is presented (R181). -/
def internalStep (s : State) : State :=
  if s.busy then tick s else s

/-- A control position inside an operation, with an answer for one call where the transport has given none. -/
def State.atPosition (s : State) (op : SeqOp) (step : BitVec 4) (sub : BitVec 2) : State :=
  { s with
    busy := true
    seqOp := op
    seqStep := step
    seqSub := sub
    answers := if s.answers.isEmpty then [.complete []] else s.answers }

/-- Put the sequencer where it issues a given bus row next, with the registers that hold the row's bytes. -/
def placeFrame (i : Instr) (s : State) : State :=
  match i with
  | .busSelForce reg => State.atPosition { s with tReg := reg } .rdraw 1 0
  | .busRdForce reg => State.atPosition { s with tReg := reg } .rdraw 3 0
  | .busEnterCm => State.atPosition { s with tOld := s.devAddr } .chaddr 2 0
  | .busReqWord2 => State.atPosition { s with tOld := s.devAddr } .chaddr 3 0
  | .busFetchWord => State.atPosition { s with tOld := s.devAddr } .chaddr 4 0
  | .busWriteWord2 h l => State.atPosition { s with tOld := s.devAddr, newWord := h ++ l } .chaddr 6 0
  | .busExitCm => State.atPosition { s with tOld := s.devAddr } .chaddr 7 0
  | .busPin v => State.atPosition { s with tOld := s.devAddr } .chaddr 1 (if v = 0 then 0 else 2)
  | .rdraw _ => s
  | .zcap _ => s
  | .calld _ _ => s
  | .fconv _ => s
  | .setcal _ _ => s
  | .chaddr _ => s
  | .rdforce => s
  | .calib => s
  | .reserved00 => s
  | .reserved09 => s
  | .reserved0A0B _ => s
  | .reserved0C0F _ => s
  | .reservedBit4 _ _ => s
  | .reservedBit5 _ _ => s
  | .reservedBit6 _ _ => s
  | .reservedBit7 _ => s

/-- Put the words of an instruction where the next step fetches: a host command at the head of the command port of an
idle block, a bus row at the control position. -/
def placeCode (c : Code) (s : State) : State :=
  match c with
  | .host cmd => { s with busy := false, seqOp := .idle, seqStep := 0, seqSub := 0, commands := cmd :: s.commands }
  | .bus f =>
    match decodeFrame f with
    | .ok i => placeFrame i s
    | .error _ => s

/-- Put a word of the opcode table where the next step fetches; a number that is no word changes nothing. -/
def placeTableWord (nbits w : Nat) (s : State) : State :=
  match codeOfTableWord nbits w with
  | none => s
  | some c => placeCode c s

end Sys2Proof.Machine
end

