-- ==== Sys2Proof/Machine/Step.lean ====
section
/-! DEFINITION. One step of the machine, and where the host puts a word for the next step to run. -/

namespace Sys2Proof.Machine

/-- One step: the row fetched, run by `exec`, or the internal micro-step of the running operation. -/
def step (s : State) : Host.Outcome State Fault Refusal :=
  match fetch s with
  | some (i, t) => exec i t
  | none => .next (internalStep s)

/-- `s` with a word of the opcode table stored where `step` fetches its next instruction (log 3, log 13). -/
def State.withFetchWord (s : State) (nbits w : Nat) : State :=
  placeTableWord nbits w s

end Sys2Proof.Machine
end

