-- ==== Sys2Proof/Laws/State.lean ====
section
/-! SUPPORT. Every field after every named update of State. -/

namespace Sys2Proof.Machine

variable (s : State)

/-! ## emit -/

@[simp] theorem State.emit_devAddr (e : Event) : (s.emit e).devAddr = s.devAddr := rfl
@[simp] theorem State.emit_zeroOffset (e : Event) : (s.emit e).zeroOffset = s.zeroOffset := rfl
@[simp] theorem State.emit_sens (e : Event) : (s.emit e).sens = s.sens := rfl
@[simp] theorem State.emit_pwr (e : Event) : (s.emit e).pwr = s.pwr := rfl
@[simp] theorem State.emit_busy (e : Event) : (s.emit e).busy = s.busy := rfl
@[simp] theorem State.emit_seqOp (e : Event) : (s.emit e).seqOp = s.seqOp := rfl
@[simp] theorem State.emit_seqStep (e : Event) : (s.emit e).seqStep = s.seqStep := rfl
@[simp] theorem State.emit_seqSub (e : Event) : (s.emit e).seqSub = s.seqSub := rfl
@[simp] theorem State.emit_tReg (e : Event) : (s.emit e).tReg = s.tReg := rfl
@[simp] theorem State.emit_b0 (e : Event) : (s.emit e).b0 = s.b0 := rfl
@[simp] theorem State.emit_b1 (e : Event) : (s.emit e).b1 = s.b1 := rfl
@[simp] theorem State.emit_tOld (e : Event) : (s.emit e).tOld = s.tOld := rfl
@[simp] theorem State.emit_tNew (e : Event) : (s.emit e).tNew = s.tNew := rfl
@[simp] theorem State.emit_f0 (e : Event) : (s.emit e).f0 = s.f0 := rfl
@[simp] theorem State.emit_f1 (e : Event) : (s.emit e).f1 = s.f1 := rfl
@[simp] theorem State.emit_f2 (e : Event) : (s.emit e).f2 = s.f2 := rfl
@[simp] theorem State.emit_word (e : Event) : (s.emit e).word = s.word := rfl
@[simp] theorem State.emit_newWord (e : Event) : (s.emit e).newWord = s.newWord := rfl
@[simp] theorem State.emit_wAck (e : Event) : (s.emit e).wAck = s.wAck := rfl
@[simp] theorem State.emit_tRaw (e : Event) : (s.emit e).tRaw = s.tRaw := rfl
@[simp] theorem State.emit_tNum (e : Event) : (s.emit e).tNum = s.tNum := rfl
@[simp] theorem State.emit_trace (e : Event) : (s.emit e).trace = s.trace ++ [e] := rfl
@[simp] theorem State.emit_records (e : Event) : (s.emit e).records = s.records := rfl
@[simp] theorem State.emit_commands (e : Event) : (s.emit e).commands = s.commands := rfl
@[simp] theorem State.emit_answers (e : Event) : (s.emit e).answers = s.answers := rfl
@[simp] theorem State.emit_samples (e : Event) : (s.emit e).samples = s.samples := rfl

/-! ## dropAnswer -/

@[simp] theorem State.dropAnswer_devAddr : (s.dropAnswer).devAddr = s.devAddr := rfl
@[simp] theorem State.dropAnswer_zeroOffset : (s.dropAnswer).zeroOffset = s.zeroOffset := rfl
@[simp] theorem State.dropAnswer_sens : (s.dropAnswer).sens = s.sens := rfl
@[simp] theorem State.dropAnswer_pwr : (s.dropAnswer).pwr = s.pwr := rfl
@[simp] theorem State.dropAnswer_busy : (s.dropAnswer).busy = s.busy := rfl
@[simp] theorem State.dropAnswer_seqOp : (s.dropAnswer).seqOp = s.seqOp := rfl
@[simp] theorem State.dropAnswer_seqStep : (s.dropAnswer).seqStep = s.seqStep := rfl
@[simp] theorem State.dropAnswer_seqSub : (s.dropAnswer).seqSub = s.seqSub := rfl
@[simp] theorem State.dropAnswer_tReg : (s.dropAnswer).tReg = s.tReg := rfl
@[simp] theorem State.dropAnswer_b0 : (s.dropAnswer).b0 = s.b0 := rfl
@[simp] theorem State.dropAnswer_b1 : (s.dropAnswer).b1 = s.b1 := rfl
@[simp] theorem State.dropAnswer_tOld : (s.dropAnswer).tOld = s.tOld := rfl
@[simp] theorem State.dropAnswer_tNew : (s.dropAnswer).tNew = s.tNew := rfl
@[simp] theorem State.dropAnswer_f0 : (s.dropAnswer).f0 = s.f0 := rfl
@[simp] theorem State.dropAnswer_f1 : (s.dropAnswer).f1 = s.f1 := rfl
@[simp] theorem State.dropAnswer_f2 : (s.dropAnswer).f2 = s.f2 := rfl
@[simp] theorem State.dropAnswer_word : (s.dropAnswer).word = s.word := rfl
@[simp] theorem State.dropAnswer_newWord : (s.dropAnswer).newWord = s.newWord := rfl
@[simp] theorem State.dropAnswer_wAck : (s.dropAnswer).wAck = s.wAck := rfl
@[simp] theorem State.dropAnswer_tRaw : (s.dropAnswer).tRaw = s.tRaw := rfl
@[simp] theorem State.dropAnswer_tNum : (s.dropAnswer).tNum = s.tNum := rfl
@[simp] theorem State.dropAnswer_trace : (s.dropAnswer).trace = s.trace := rfl
@[simp] theorem State.dropAnswer_records : (s.dropAnswer).records = s.records := rfl
@[simp] theorem State.dropAnswer_commands : (s.dropAnswer).commands = s.commands := rfl
@[simp] theorem State.dropAnswer_answers : (s.dropAnswer).answers = s.answers.tail := rfl
@[simp] theorem State.dropAnswer_samples : (s.dropAnswer).samples = s.samples := rfl

/-! ## dropSample -/

@[simp] theorem State.dropSample_devAddr : (s.dropSample).devAddr = s.devAddr := rfl
@[simp] theorem State.dropSample_zeroOffset : (s.dropSample).zeroOffset = s.zeroOffset := rfl
@[simp] theorem State.dropSample_sens : (s.dropSample).sens = s.sens := rfl
@[simp] theorem State.dropSample_pwr : (s.dropSample).pwr = s.pwr := rfl
@[simp] theorem State.dropSample_busy : (s.dropSample).busy = s.busy := rfl
@[simp] theorem State.dropSample_seqOp : (s.dropSample).seqOp = s.seqOp := rfl
@[simp] theorem State.dropSample_seqStep : (s.dropSample).seqStep = s.seqStep := rfl
@[simp] theorem State.dropSample_seqSub : (s.dropSample).seqSub = s.seqSub := rfl
@[simp] theorem State.dropSample_tReg : (s.dropSample).tReg = s.tReg := rfl
@[simp] theorem State.dropSample_b0 : (s.dropSample).b0 = s.b0 := rfl
@[simp] theorem State.dropSample_b1 : (s.dropSample).b1 = s.b1 := rfl
@[simp] theorem State.dropSample_tOld : (s.dropSample).tOld = s.tOld := rfl
@[simp] theorem State.dropSample_tNew : (s.dropSample).tNew = s.tNew := rfl
@[simp] theorem State.dropSample_f0 : (s.dropSample).f0 = s.f0 := rfl
@[simp] theorem State.dropSample_f1 : (s.dropSample).f1 = s.f1 := rfl
@[simp] theorem State.dropSample_f2 : (s.dropSample).f2 = s.f2 := rfl
@[simp] theorem State.dropSample_word : (s.dropSample).word = s.word := rfl
@[simp] theorem State.dropSample_newWord : (s.dropSample).newWord = s.newWord := rfl
@[simp] theorem State.dropSample_wAck : (s.dropSample).wAck = s.wAck := rfl
@[simp] theorem State.dropSample_tRaw : (s.dropSample).tRaw = s.tRaw := rfl
@[simp] theorem State.dropSample_tNum : (s.dropSample).tNum = s.tNum := rfl
@[simp] theorem State.dropSample_trace : (s.dropSample).trace = s.trace := rfl
@[simp] theorem State.dropSample_records : (s.dropSample).records = s.records := rfl
@[simp] theorem State.dropSample_commands : (s.dropSample).commands = s.commands := rfl
@[simp] theorem State.dropSample_answers : (s.dropSample).answers = s.answers := rfl
@[simp] theorem State.dropSample_samples : (s.dropSample).samples = s.samples.tail := rfl

/-! ## dropCommand -/

@[simp] theorem State.dropCommand_devAddr : (s.dropCommand).devAddr = s.devAddr := rfl
@[simp] theorem State.dropCommand_zeroOffset : (s.dropCommand).zeroOffset = s.zeroOffset := rfl
@[simp] theorem State.dropCommand_sens : (s.dropCommand).sens = s.sens := rfl
@[simp] theorem State.dropCommand_pwr : (s.dropCommand).pwr = s.pwr := rfl
@[simp] theorem State.dropCommand_busy : (s.dropCommand).busy = s.busy := rfl
@[simp] theorem State.dropCommand_seqOp : (s.dropCommand).seqOp = s.seqOp := rfl
@[simp] theorem State.dropCommand_seqStep : (s.dropCommand).seqStep = s.seqStep := rfl
@[simp] theorem State.dropCommand_seqSub : (s.dropCommand).seqSub = s.seqSub := rfl
@[simp] theorem State.dropCommand_tReg : (s.dropCommand).tReg = s.tReg := rfl
@[simp] theorem State.dropCommand_b0 : (s.dropCommand).b0 = s.b0 := rfl
@[simp] theorem State.dropCommand_b1 : (s.dropCommand).b1 = s.b1 := rfl
@[simp] theorem State.dropCommand_tOld : (s.dropCommand).tOld = s.tOld := rfl
@[simp] theorem State.dropCommand_tNew : (s.dropCommand).tNew = s.tNew := rfl
@[simp] theorem State.dropCommand_f0 : (s.dropCommand).f0 = s.f0 := rfl
@[simp] theorem State.dropCommand_f1 : (s.dropCommand).f1 = s.f1 := rfl
@[simp] theorem State.dropCommand_f2 : (s.dropCommand).f2 = s.f2 := rfl
@[simp] theorem State.dropCommand_word : (s.dropCommand).word = s.word := rfl
@[simp] theorem State.dropCommand_newWord : (s.dropCommand).newWord = s.newWord := rfl
@[simp] theorem State.dropCommand_wAck : (s.dropCommand).wAck = s.wAck := rfl
@[simp] theorem State.dropCommand_tRaw : (s.dropCommand).tRaw = s.tRaw := rfl
@[simp] theorem State.dropCommand_tNum : (s.dropCommand).tNum = s.tNum := rfl
@[simp] theorem State.dropCommand_trace : (s.dropCommand).trace = s.trace := rfl
@[simp] theorem State.dropCommand_records : (s.dropCommand).records = s.records := rfl
@[simp] theorem State.dropCommand_commands : (s.dropCommand).commands = s.commands.tail := rfl
@[simp] theorem State.dropCommand_answers : (s.dropCommand).answers = s.answers := rfl
@[simp] theorem State.dropCommand_samples : (s.dropCommand).samples = s.samples := rfl

/-! ## goTo -/

@[simp] theorem State.goTo_devAddr (p : BitVec 4) (q : BitVec 2) : (s.goTo p q).devAddr = s.devAddr := rfl
@[simp] theorem State.goTo_zeroOffset (p : BitVec 4) (q : BitVec 2) : (s.goTo p q).zeroOffset = s.zeroOffset := rfl
@[simp] theorem State.goTo_sens (p : BitVec 4) (q : BitVec 2) : (s.goTo p q).sens = s.sens := rfl
@[simp] theorem State.goTo_pwr (p : BitVec 4) (q : BitVec 2) : (s.goTo p q).pwr = s.pwr := rfl
@[simp] theorem State.goTo_busy (p : BitVec 4) (q : BitVec 2) : (s.goTo p q).busy = s.busy := rfl
@[simp] theorem State.goTo_seqOp (p : BitVec 4) (q : BitVec 2) : (s.goTo p q).seqOp = s.seqOp := rfl
@[simp] theorem State.goTo_seqStep (p : BitVec 4) (q : BitVec 2) : (s.goTo p q).seqStep = p := rfl
@[simp] theorem State.goTo_seqSub (p : BitVec 4) (q : BitVec 2) : (s.goTo p q).seqSub = q := rfl
@[simp] theorem State.goTo_tReg (p : BitVec 4) (q : BitVec 2) : (s.goTo p q).tReg = s.tReg := rfl
@[simp] theorem State.goTo_b0 (p : BitVec 4) (q : BitVec 2) : (s.goTo p q).b0 = s.b0 := rfl
@[simp] theorem State.goTo_b1 (p : BitVec 4) (q : BitVec 2) : (s.goTo p q).b1 = s.b1 := rfl
@[simp] theorem State.goTo_tOld (p : BitVec 4) (q : BitVec 2) : (s.goTo p q).tOld = s.tOld := rfl
@[simp] theorem State.goTo_tNew (p : BitVec 4) (q : BitVec 2) : (s.goTo p q).tNew = s.tNew := rfl
@[simp] theorem State.goTo_f0 (p : BitVec 4) (q : BitVec 2) : (s.goTo p q).f0 = s.f0 := rfl
@[simp] theorem State.goTo_f1 (p : BitVec 4) (q : BitVec 2) : (s.goTo p q).f1 = s.f1 := rfl
@[simp] theorem State.goTo_f2 (p : BitVec 4) (q : BitVec 2) : (s.goTo p q).f2 = s.f2 := rfl
@[simp] theorem State.goTo_word (p : BitVec 4) (q : BitVec 2) : (s.goTo p q).word = s.word := rfl
@[simp] theorem State.goTo_newWord (p : BitVec 4) (q : BitVec 2) : (s.goTo p q).newWord = s.newWord := rfl
@[simp] theorem State.goTo_wAck (p : BitVec 4) (q : BitVec 2) : (s.goTo p q).wAck = s.wAck := rfl
@[simp] theorem State.goTo_tRaw (p : BitVec 4) (q : BitVec 2) : (s.goTo p q).tRaw = s.tRaw := rfl
@[simp] theorem State.goTo_tNum (p : BitVec 4) (q : BitVec 2) : (s.goTo p q).tNum = s.tNum := rfl
@[simp] theorem State.goTo_trace (p : BitVec 4) (q : BitVec 2) : (s.goTo p q).trace = s.trace := rfl
@[simp] theorem State.goTo_records (p : BitVec 4) (q : BitVec 2) : (s.goTo p q).records = s.records := rfl
@[simp] theorem State.goTo_commands (p : BitVec 4) (q : BitVec 2) : (s.goTo p q).commands = s.commands := rfl
@[simp] theorem State.goTo_answers (p : BitVec 4) (q : BitVec 2) : (s.goTo p q).answers = s.answers := rfl
@[simp] theorem State.goTo_samples (p : BitVec 4) (q : BitVec 2) : (s.goTo p q).samples = s.samples := rfl

/-! ## start -/

@[simp] theorem State.start_devAddr (o : SeqOp) : (s.start o).devAddr = s.devAddr := rfl
@[simp] theorem State.start_zeroOffset (o : SeqOp) : (s.start o).zeroOffset = s.zeroOffset := rfl
@[simp] theorem State.start_sens (o : SeqOp) : (s.start o).sens = s.sens := rfl
@[simp] theorem State.start_pwr (o : SeqOp) : (s.start o).pwr = s.pwr := rfl
@[simp] theorem State.start_busy (o : SeqOp) : (s.start o).busy = true := rfl
@[simp] theorem State.start_seqOp (o : SeqOp) : (s.start o).seqOp = o := rfl
@[simp] theorem State.start_seqStep (o : SeqOp) : (s.start o).seqStep = 1 := rfl
@[simp] theorem State.start_seqSub (o : SeqOp) : (s.start o).seqSub = 0 := rfl
@[simp] theorem State.start_tReg (o : SeqOp) : (s.start o).tReg = s.tReg := rfl
@[simp] theorem State.start_b0 (o : SeqOp) : (s.start o).b0 = s.b0 := rfl
@[simp] theorem State.start_b1 (o : SeqOp) : (s.start o).b1 = s.b1 := rfl
@[simp] theorem State.start_tOld (o : SeqOp) : (s.start o).tOld = s.tOld := rfl
@[simp] theorem State.start_tNew (o : SeqOp) : (s.start o).tNew = s.tNew := rfl
@[simp] theorem State.start_f0 (o : SeqOp) : (s.start o).f0 = s.f0 := rfl
@[simp] theorem State.start_f1 (o : SeqOp) : (s.start o).f1 = s.f1 := rfl
@[simp] theorem State.start_f2 (o : SeqOp) : (s.start o).f2 = s.f2 := rfl
@[simp] theorem State.start_word (o : SeqOp) : (s.start o).word = s.word := rfl
@[simp] theorem State.start_newWord (o : SeqOp) : (s.start o).newWord = s.newWord := rfl
@[simp] theorem State.start_wAck (o : SeqOp) : (s.start o).wAck = s.wAck := rfl
@[simp] theorem State.start_tRaw (o : SeqOp) : (s.start o).tRaw = s.tRaw := rfl
@[simp] theorem State.start_tNum (o : SeqOp) : (s.start o).tNum = s.tNum := rfl
@[simp] theorem State.start_trace (o : SeqOp) : (s.start o).trace = s.trace := rfl
@[simp] theorem State.start_records (o : SeqOp) : (s.start o).records = s.records := rfl
@[simp] theorem State.start_commands (o : SeqOp) : (s.start o).commands = s.commands := rfl
@[simp] theorem State.start_answers (o : SeqOp) : (s.start o).answers = s.answers := rfl
@[simp] theorem State.start_samples (o : SeqOp) : (s.start o).samples = s.samples := rfl

/-! ## deliver -/

@[simp] theorem State.deliver_devAddr (c : Completion) : (s.deliver c).devAddr = s.devAddr := rfl
@[simp] theorem State.deliver_zeroOffset (c : Completion) : (s.deliver c).zeroOffset = s.zeroOffset := rfl
@[simp] theorem State.deliver_sens (c : Completion) : (s.deliver c).sens = s.sens := rfl
@[simp] theorem State.deliver_pwr (c : Completion) : (s.deliver c).pwr = s.pwr := rfl
@[simp] theorem State.deliver_busy (c : Completion) : (s.deliver c).busy = false := rfl
@[simp] theorem State.deliver_seqOp (c : Completion) : (s.deliver c).seqOp = .idle := rfl
@[simp] theorem State.deliver_seqStep (c : Completion) : (s.deliver c).seqStep = 0 := rfl
@[simp] theorem State.deliver_seqSub (c : Completion) : (s.deliver c).seqSub = 0 := rfl
@[simp] theorem State.deliver_tReg (c : Completion) : (s.deliver c).tReg = s.tReg := rfl
@[simp] theorem State.deliver_b0 (c : Completion) : (s.deliver c).b0 = s.b0 := rfl
@[simp] theorem State.deliver_b1 (c : Completion) : (s.deliver c).b1 = s.b1 := rfl
@[simp] theorem State.deliver_tOld (c : Completion) : (s.deliver c).tOld = s.tOld := rfl
@[simp] theorem State.deliver_tNew (c : Completion) : (s.deliver c).tNew = s.tNew := rfl
@[simp] theorem State.deliver_f0 (c : Completion) : (s.deliver c).f0 = s.f0 := rfl
@[simp] theorem State.deliver_f1 (c : Completion) : (s.deliver c).f1 = s.f1 := rfl
@[simp] theorem State.deliver_f2 (c : Completion) : (s.deliver c).f2 = s.f2 := rfl
@[simp] theorem State.deliver_word (c : Completion) : (s.deliver c).word = s.word := rfl
@[simp] theorem State.deliver_newWord (c : Completion) : (s.deliver c).newWord = s.newWord := rfl
@[simp] theorem State.deliver_wAck (c : Completion) : (s.deliver c).wAck = s.wAck := rfl
@[simp] theorem State.deliver_tRaw (c : Completion) : (s.deliver c).tRaw = s.tRaw := rfl
@[simp] theorem State.deliver_tNum (c : Completion) : (s.deliver c).tNum = s.tNum := rfl
@[simp] theorem State.deliver_trace (c : Completion) : (s.deliver c).trace = s.trace := rfl
@[simp] theorem State.deliver_records (c : Completion) : (s.deliver c).records = s.records ++ [c] := rfl
@[simp] theorem State.deliver_commands (c : Completion) : (s.deliver c).commands = s.commands := rfl
@[simp] theorem State.deliver_answers (c : Completion) : (s.deliver c).answers = s.answers := rfl
@[simp] theorem State.deliver_samples (c : Completion) : (s.deliver c).samples = s.samples := rfl

/-! ## complete -/

@[simp] theorem State.complete_devAddr (r : Option U16) (n : Option Num) : (s.complete r n).devAddr = s.devAddr := rfl
@[simp] theorem State.complete_zeroOffset (r : Option U16) (n : Option Num) : (s.complete r n).zeroOffset = s.zeroOffset := rfl
@[simp] theorem State.complete_sens (r : Option U16) (n : Option Num) : (s.complete r n).sens = s.sens := rfl
@[simp] theorem State.complete_pwr (r : Option U16) (n : Option Num) : (s.complete r n).pwr = s.pwr := rfl
@[simp] theorem State.complete_busy (r : Option U16) (n : Option Num) : (s.complete r n).busy = false := rfl
@[simp] theorem State.complete_seqOp (r : Option U16) (n : Option Num) : (s.complete r n).seqOp = .idle := rfl
@[simp] theorem State.complete_seqStep (r : Option U16) (n : Option Num) : (s.complete r n).seqStep = 0 := rfl
@[simp] theorem State.complete_seqSub (r : Option U16) (n : Option Num) : (s.complete r n).seqSub = 0 := rfl
@[simp] theorem State.complete_tReg (r : Option U16) (n : Option Num) : (s.complete r n).tReg = s.tReg := rfl
@[simp] theorem State.complete_b0 (r : Option U16) (n : Option Num) : (s.complete r n).b0 = s.b0 := rfl
@[simp] theorem State.complete_b1 (r : Option U16) (n : Option Num) : (s.complete r n).b1 = s.b1 := rfl
@[simp] theorem State.complete_tOld (r : Option U16) (n : Option Num) : (s.complete r n).tOld = s.tOld := rfl
@[simp] theorem State.complete_tNew (r : Option U16) (n : Option Num) : (s.complete r n).tNew = s.tNew := rfl
@[simp] theorem State.complete_f0 (r : Option U16) (n : Option Num) : (s.complete r n).f0 = s.f0 := rfl
@[simp] theorem State.complete_f1 (r : Option U16) (n : Option Num) : (s.complete r n).f1 = s.f1 := rfl
@[simp] theorem State.complete_f2 (r : Option U16) (n : Option Num) : (s.complete r n).f2 = s.f2 := rfl
@[simp] theorem State.complete_word (r : Option U16) (n : Option Num) : (s.complete r n).word = s.word := rfl
@[simp] theorem State.complete_newWord (r : Option U16) (n : Option Num) : (s.complete r n).newWord = s.newWord := rfl
@[simp] theorem State.complete_wAck (r : Option U16) (n : Option Num) : (s.complete r n).wAck = s.wAck := rfl
@[simp] theorem State.complete_tRaw (r : Option U16) (n : Option Num) : (s.complete r n).tRaw = s.tRaw := rfl
@[simp] theorem State.complete_tNum (r : Option U16) (n : Option Num) : (s.complete r n).tNum = s.tNum := rfl
@[simp] theorem State.complete_trace (r : Option U16) (n : Option Num) : (s.complete r n).trace = s.trace := rfl
@[simp] theorem State.complete_records (r : Option U16) (n : Option Num) : (s.complete r n).records = s.records ++ [okRecord s r n] := rfl
@[simp] theorem State.complete_commands (r : Option U16) (n : Option Num) : (s.complete r n).commands = s.commands := rfl
@[simp] theorem State.complete_answers (r : Option U16) (n : Option Num) : (s.complete r n).answers = s.answers := rfl
@[simp] theorem State.complete_samples (r : Option U16) (n : Option Num) : (s.complete r n).samples = s.samples := rfl

/-! ## setPwr -/

@[simp] theorem State.setPwr_devAddr (l : BitVec 1) : (s.setPwr l).devAddr = s.devAddr := rfl
@[simp] theorem State.setPwr_zeroOffset (l : BitVec 1) : (s.setPwr l).zeroOffset = s.zeroOffset := rfl
@[simp] theorem State.setPwr_sens (l : BitVec 1) : (s.setPwr l).sens = s.sens := rfl
@[simp] theorem State.setPwr_pwr (l : BitVec 1) : (s.setPwr l).pwr = l := rfl
@[simp] theorem State.setPwr_busy (l : BitVec 1) : (s.setPwr l).busy = s.busy := rfl
@[simp] theorem State.setPwr_seqOp (l : BitVec 1) : (s.setPwr l).seqOp = s.seqOp := rfl
@[simp] theorem State.setPwr_seqStep (l : BitVec 1) : (s.setPwr l).seqStep = s.seqStep := rfl
@[simp] theorem State.setPwr_seqSub (l : BitVec 1) : (s.setPwr l).seqSub = s.seqSub := rfl
@[simp] theorem State.setPwr_tReg (l : BitVec 1) : (s.setPwr l).tReg = s.tReg := rfl
@[simp] theorem State.setPwr_b0 (l : BitVec 1) : (s.setPwr l).b0 = s.b0 := rfl
@[simp] theorem State.setPwr_b1 (l : BitVec 1) : (s.setPwr l).b1 = s.b1 := rfl
@[simp] theorem State.setPwr_tOld (l : BitVec 1) : (s.setPwr l).tOld = s.tOld := rfl
@[simp] theorem State.setPwr_tNew (l : BitVec 1) : (s.setPwr l).tNew = s.tNew := rfl
@[simp] theorem State.setPwr_f0 (l : BitVec 1) : (s.setPwr l).f0 = s.f0 := rfl
@[simp] theorem State.setPwr_f1 (l : BitVec 1) : (s.setPwr l).f1 = s.f1 := rfl
@[simp] theorem State.setPwr_f2 (l : BitVec 1) : (s.setPwr l).f2 = s.f2 := rfl
@[simp] theorem State.setPwr_word (l : BitVec 1) : (s.setPwr l).word = s.word := rfl
@[simp] theorem State.setPwr_newWord (l : BitVec 1) : (s.setPwr l).newWord = s.newWord := rfl
@[simp] theorem State.setPwr_wAck (l : BitVec 1) : (s.setPwr l).wAck = s.wAck := rfl
@[simp] theorem State.setPwr_tRaw (l : BitVec 1) : (s.setPwr l).tRaw = s.tRaw := rfl
@[simp] theorem State.setPwr_tNum (l : BitVec 1) : (s.setPwr l).tNum = s.tNum := rfl
@[simp] theorem State.setPwr_trace (l : BitVec 1) : (s.setPwr l).trace = s.trace := rfl
@[simp] theorem State.setPwr_records (l : BitVec 1) : (s.setPwr l).records = s.records := rfl
@[simp] theorem State.setPwr_commands (l : BitVec 1) : (s.setPwr l).commands = s.commands := rfl
@[simp] theorem State.setPwr_answers (l : BitVec 1) : (s.setPwr l).answers = s.answers := rfl
@[simp] theorem State.setPwr_samples (l : BitVec 1) : (s.setPwr l).samples = s.samples := rfl

/-! ## latchRaw -/

@[simp] theorem State.latchRaw_devAddr (x : List Byte) : (s.latchRaw x).devAddr = s.devAddr := rfl
@[simp] theorem State.latchRaw_zeroOffset (x : List Byte) : (s.latchRaw x).zeroOffset = s.zeroOffset := rfl
@[simp] theorem State.latchRaw_sens (x : List Byte) : (s.latchRaw x).sens = s.sens := rfl
@[simp] theorem State.latchRaw_pwr (x : List Byte) : (s.latchRaw x).pwr = s.pwr := rfl
@[simp] theorem State.latchRaw_busy (x : List Byte) : (s.latchRaw x).busy = s.busy := rfl
@[simp] theorem State.latchRaw_seqOp (x : List Byte) : (s.latchRaw x).seqOp = s.seqOp := rfl
@[simp] theorem State.latchRaw_seqStep (x : List Byte) : (s.latchRaw x).seqStep = s.seqStep := rfl
@[simp] theorem State.latchRaw_seqSub (x : List Byte) : (s.latchRaw x).seqSub = s.seqSub := rfl
@[simp] theorem State.latchRaw_tReg (x : List Byte) : (s.latchRaw x).tReg = s.tReg := rfl
@[simp] theorem State.latchRaw_b0 (x : List Byte) : (s.latchRaw x).b0 = x.getD 0 0 := rfl
@[simp] theorem State.latchRaw_b1 (x : List Byte) : (s.latchRaw x).b1 = x.getD 1 0 := rfl
@[simp] theorem State.latchRaw_tOld (x : List Byte) : (s.latchRaw x).tOld = s.tOld := rfl
@[simp] theorem State.latchRaw_tNew (x : List Byte) : (s.latchRaw x).tNew = s.tNew := rfl
@[simp] theorem State.latchRaw_f0 (x : List Byte) : (s.latchRaw x).f0 = s.f0 := rfl
@[simp] theorem State.latchRaw_f1 (x : List Byte) : (s.latchRaw x).f1 = s.f1 := rfl
@[simp] theorem State.latchRaw_f2 (x : List Byte) : (s.latchRaw x).f2 = s.f2 := rfl
@[simp] theorem State.latchRaw_word (x : List Byte) : (s.latchRaw x).word = s.word := rfl
@[simp] theorem State.latchRaw_newWord (x : List Byte) : (s.latchRaw x).newWord = s.newWord := rfl
@[simp] theorem State.latchRaw_wAck (x : List Byte) : (s.latchRaw x).wAck = s.wAck := rfl
@[simp] theorem State.latchRaw_tRaw (x : List Byte) : (s.latchRaw x).tRaw = s.tRaw := rfl
@[simp] theorem State.latchRaw_tNum (x : List Byte) : (s.latchRaw x).tNum = s.tNum := rfl
@[simp] theorem State.latchRaw_trace (x : List Byte) : (s.latchRaw x).trace = s.trace := rfl
@[simp] theorem State.latchRaw_records (x : List Byte) : (s.latchRaw x).records = s.records := rfl
@[simp] theorem State.latchRaw_commands (x : List Byte) : (s.latchRaw x).commands = s.commands := rfl
@[simp] theorem State.latchRaw_answers (x : List Byte) : (s.latchRaw x).answers = s.answers := rfl
@[simp] theorem State.latchRaw_samples (x : List Byte) : (s.latchRaw x).samples = s.samples := rfl

/-! ## latchFetch -/

@[simp] theorem State.latchFetch_devAddr (x : List Byte) : (s.latchFetch x).devAddr = s.devAddr := rfl
@[simp] theorem State.latchFetch_zeroOffset (x : List Byte) : (s.latchFetch x).zeroOffset = s.zeroOffset := rfl
@[simp] theorem State.latchFetch_sens (x : List Byte) : (s.latchFetch x).sens = s.sens := rfl
@[simp] theorem State.latchFetch_pwr (x : List Byte) : (s.latchFetch x).pwr = s.pwr := rfl
@[simp] theorem State.latchFetch_busy (x : List Byte) : (s.latchFetch x).busy = s.busy := rfl
@[simp] theorem State.latchFetch_seqOp (x : List Byte) : (s.latchFetch x).seqOp = s.seqOp := rfl
@[simp] theorem State.latchFetch_seqStep (x : List Byte) : (s.latchFetch x).seqStep = s.seqStep := rfl
@[simp] theorem State.latchFetch_seqSub (x : List Byte) : (s.latchFetch x).seqSub = s.seqSub := rfl
@[simp] theorem State.latchFetch_tReg (x : List Byte) : (s.latchFetch x).tReg = s.tReg := rfl
@[simp] theorem State.latchFetch_b0 (x : List Byte) : (s.latchFetch x).b0 = s.b0 := rfl
@[simp] theorem State.latchFetch_b1 (x : List Byte) : (s.latchFetch x).b1 = s.b1 := rfl
@[simp] theorem State.latchFetch_tOld (x : List Byte) : (s.latchFetch x).tOld = s.tOld := rfl
@[simp] theorem State.latchFetch_tNew (x : List Byte) : (s.latchFetch x).tNew = s.tNew := rfl
@[simp] theorem State.latchFetch_f0 (x : List Byte) : (s.latchFetch x).f0 = x.getD 0 0 := rfl
@[simp] theorem State.latchFetch_f1 (x : List Byte) : (s.latchFetch x).f1 = x.getD 1 0 := rfl
@[simp] theorem State.latchFetch_f2 (x : List Byte) : (s.latchFetch x).f2 = x.getD 2 0 := rfl
@[simp] theorem State.latchFetch_word (x : List Byte) : (s.latchFetch x).word = fetchedWord (x.getD 0 0) (x.getD 2 0) := rfl
@[simp] theorem State.latchFetch_newWord (x : List Byte) : (s.latchFetch x).newWord = s.newWord := rfl
@[simp] theorem State.latchFetch_wAck (x : List Byte) : (s.latchFetch x).wAck = (s.wAck || ackMismatch (x.getD 0 0)) := rfl
@[simp] theorem State.latchFetch_tRaw (x : List Byte) : (s.latchFetch x).tRaw = s.tRaw := rfl
@[simp] theorem State.latchFetch_tNum (x : List Byte) : (s.latchFetch x).tNum = s.tNum := rfl
@[simp] theorem State.latchFetch_trace (x : List Byte) : (s.latchFetch x).trace = s.trace := rfl
@[simp] theorem State.latchFetch_records (x : List Byte) : (s.latchFetch x).records = s.records := rfl
@[simp] theorem State.latchFetch_commands (x : List Byte) : (s.latchFetch x).commands = s.commands := rfl
@[simp] theorem State.latchFetch_answers (x : List Byte) : (s.latchFetch x).answers = s.answers := rfl
@[simp] theorem State.latchFetch_samples (x : List Byte) : (s.latchFetch x).samples = s.samples := rfl

/-! ## zeroCapture -/

@[simp] theorem State.zeroCapture_devAddr : (s.zeroCapture).devAddr = s.devAddr := rfl
@[simp] theorem State.zeroCapture_zeroOffset : (s.zeroCapture).zeroOffset = s.tRaw := rfl
@[simp] theorem State.zeroCapture_sens : (s.zeroCapture).sens = s.sens := rfl
@[simp] theorem State.zeroCapture_pwr : (s.zeroCapture).pwr = s.pwr := rfl
@[simp] theorem State.zeroCapture_busy : (s.zeroCapture).busy = s.busy := rfl
@[simp] theorem State.zeroCapture_seqOp : (s.zeroCapture).seqOp = s.seqOp := rfl
@[simp] theorem State.zeroCapture_seqStep : (s.zeroCapture).seqStep = s.seqStep := rfl
@[simp] theorem State.zeroCapture_seqSub : (s.zeroCapture).seqSub = s.seqSub := rfl
@[simp] theorem State.zeroCapture_tReg : (s.zeroCapture).tReg = s.tReg := rfl
@[simp] theorem State.zeroCapture_b0 : (s.zeroCapture).b0 = s.b0 := rfl
@[simp] theorem State.zeroCapture_b1 : (s.zeroCapture).b1 = s.b1 := rfl
@[simp] theorem State.zeroCapture_tOld : (s.zeroCapture).tOld = s.tOld := rfl
@[simp] theorem State.zeroCapture_tNew : (s.zeroCapture).tNew = s.tNew := rfl
@[simp] theorem State.zeroCapture_f0 : (s.zeroCapture).f0 = s.f0 := rfl
@[simp] theorem State.zeroCapture_f1 : (s.zeroCapture).f1 = s.f1 := rfl
@[simp] theorem State.zeroCapture_f2 : (s.zeroCapture).f2 = s.f2 := rfl
@[simp] theorem State.zeroCapture_word : (s.zeroCapture).word = s.word := rfl
@[simp] theorem State.zeroCapture_newWord : (s.zeroCapture).newWord = s.newWord := rfl
@[simp] theorem State.zeroCapture_wAck : (s.zeroCapture).wAck = s.wAck := rfl
@[simp] theorem State.zeroCapture_tRaw : (s.zeroCapture).tRaw = s.tRaw := rfl
@[simp] theorem State.zeroCapture_tNum : (s.zeroCapture).tNum = s.tNum := rfl
@[simp] theorem State.zeroCapture_trace : (s.zeroCapture).trace = s.trace := rfl
@[simp] theorem State.zeroCapture_records : (s.zeroCapture).records = s.records := rfl
@[simp] theorem State.zeroCapture_commands : (s.zeroCapture).commands = s.commands := rfl
@[simp] theorem State.zeroCapture_answers : (s.zeroCapture).answers = s.answers := rfl
@[simp] theorem State.zeroCapture_samples : (s.zeroCapture).samples = s.samples := rfl

/-! ## fitSensitivity -/

@[simp] theorem State.fitSensitivity_devAddr : (s.fitSensitivity).devAddr = s.devAddr := rfl
@[simp] theorem State.fitSensitivity_zeroOffset : (s.fitSensitivity).zeroOffset = s.zeroOffset := rfl
@[simp] theorem State.fitSensitivity_sens : (s.fitSensitivity).sens = sensitivityOf s.tNum s.tRaw s.zeroOffset := rfl
@[simp] theorem State.fitSensitivity_pwr : (s.fitSensitivity).pwr = s.pwr := rfl
@[simp] theorem State.fitSensitivity_busy : (s.fitSensitivity).busy = s.busy := rfl
@[simp] theorem State.fitSensitivity_seqOp : (s.fitSensitivity).seqOp = s.seqOp := rfl
@[simp] theorem State.fitSensitivity_seqStep : (s.fitSensitivity).seqStep = s.seqStep := rfl
@[simp] theorem State.fitSensitivity_seqSub : (s.fitSensitivity).seqSub = s.seqSub := rfl
@[simp] theorem State.fitSensitivity_tReg : (s.fitSensitivity).tReg = s.tReg := rfl
@[simp] theorem State.fitSensitivity_b0 : (s.fitSensitivity).b0 = s.b0 := rfl
@[simp] theorem State.fitSensitivity_b1 : (s.fitSensitivity).b1 = s.b1 := rfl
@[simp] theorem State.fitSensitivity_tOld : (s.fitSensitivity).tOld = s.tOld := rfl
@[simp] theorem State.fitSensitivity_tNew : (s.fitSensitivity).tNew = s.tNew := rfl
@[simp] theorem State.fitSensitivity_f0 : (s.fitSensitivity).f0 = s.f0 := rfl
@[simp] theorem State.fitSensitivity_f1 : (s.fitSensitivity).f1 = s.f1 := rfl
@[simp] theorem State.fitSensitivity_f2 : (s.fitSensitivity).f2 = s.f2 := rfl
@[simp] theorem State.fitSensitivity_word : (s.fitSensitivity).word = s.word := rfl
@[simp] theorem State.fitSensitivity_newWord : (s.fitSensitivity).newWord = s.newWord := rfl
@[simp] theorem State.fitSensitivity_wAck : (s.fitSensitivity).wAck = s.wAck := rfl
@[simp] theorem State.fitSensitivity_tRaw : (s.fitSensitivity).tRaw = s.tRaw := rfl
@[simp] theorem State.fitSensitivity_tNum : (s.fitSensitivity).tNum = s.tNum := rfl
@[simp] theorem State.fitSensitivity_trace : (s.fitSensitivity).trace = s.trace := rfl
@[simp] theorem State.fitSensitivity_records : (s.fitSensitivity).records = s.records := rfl
@[simp] theorem State.fitSensitivity_commands : (s.fitSensitivity).commands = s.commands := rfl
@[simp] theorem State.fitSensitivity_answers : (s.fitSensitivity).answers = s.answers := rfl
@[simp] theorem State.fitSensitivity_samples : (s.fitSensitivity).samples = s.samples := rfl

/-! ## setManual -/

@[simp] theorem State.setManual_devAddr : (s.setManual).devAddr = s.devAddr := rfl
@[simp] theorem State.setManual_zeroOffset : (s.setManual).zeroOffset = s.tRaw := rfl
@[simp] theorem State.setManual_sens : (s.setManual).sens = s.tNum := rfl
@[simp] theorem State.setManual_pwr : (s.setManual).pwr = s.pwr := rfl
@[simp] theorem State.setManual_busy : (s.setManual).busy = s.busy := rfl
@[simp] theorem State.setManual_seqOp : (s.setManual).seqOp = s.seqOp := rfl
@[simp] theorem State.setManual_seqStep : (s.setManual).seqStep = s.seqStep := rfl
@[simp] theorem State.setManual_seqSub : (s.setManual).seqSub = s.seqSub := rfl
@[simp] theorem State.setManual_tReg : (s.setManual).tReg = s.tReg := rfl
@[simp] theorem State.setManual_b0 : (s.setManual).b0 = s.b0 := rfl
@[simp] theorem State.setManual_b1 : (s.setManual).b1 = s.b1 := rfl
@[simp] theorem State.setManual_tOld : (s.setManual).tOld = s.tOld := rfl
@[simp] theorem State.setManual_tNew : (s.setManual).tNew = s.tNew := rfl
@[simp] theorem State.setManual_f0 : (s.setManual).f0 = s.f0 := rfl
@[simp] theorem State.setManual_f1 : (s.setManual).f1 = s.f1 := rfl
@[simp] theorem State.setManual_f2 : (s.setManual).f2 = s.f2 := rfl
@[simp] theorem State.setManual_word : (s.setManual).word = s.word := rfl
@[simp] theorem State.setManual_newWord : (s.setManual).newWord = s.newWord := rfl
@[simp] theorem State.setManual_wAck : (s.setManual).wAck = s.wAck := rfl
@[simp] theorem State.setManual_tRaw : (s.setManual).tRaw = s.tRaw := rfl
@[simp] theorem State.setManual_tNum : (s.setManual).tNum = s.tNum := rfl
@[simp] theorem State.setManual_trace : (s.setManual).trace = s.trace := rfl
@[simp] theorem State.setManual_records : (s.setManual).records = s.records := rfl
@[simp] theorem State.setManual_commands : (s.setManual).commands = s.commands := rfl
@[simp] theorem State.setManual_answers : (s.setManual).answers = s.answers := rfl
@[simp] theorem State.setManual_samples : (s.setManual).samples = s.samples := rfl

/-! ## passReading -/

@[simp] theorem State.passReading_devAddr : (s.passReading).devAddr = s.devAddr := rfl
@[simp] theorem State.passReading_zeroOffset : (s.passReading).zeroOffset = s.zeroOffset := rfl
@[simp] theorem State.passReading_sens : (s.passReading).sens = s.sens := rfl
@[simp] theorem State.passReading_pwr : (s.passReading).pwr = s.pwr := rfl
@[simp] theorem State.passReading_busy : (s.passReading).busy = s.busy := rfl
@[simp] theorem State.passReading_seqOp : (s.passReading).seqOp = s.seqOp := rfl
@[simp] theorem State.passReading_seqStep : (s.passReading).seqStep = s.seqStep := rfl
@[simp] theorem State.passReading_seqSub : (s.passReading).seqSub = s.seqSub := rfl
@[simp] theorem State.passReading_tReg : (s.passReading).tReg = s.tReg := rfl
@[simp] theorem State.passReading_b0 : (s.passReading).b0 = s.b0 := rfl
@[simp] theorem State.passReading_b1 : (s.passReading).b1 = s.b1 := rfl
@[simp] theorem State.passReading_tOld : (s.passReading).tOld = s.tOld := rfl
@[simp] theorem State.passReading_tNew : (s.passReading).tNew = s.tNew := rfl
@[simp] theorem State.passReading_f0 : (s.passReading).f0 = s.f0 := rfl
@[simp] theorem State.passReading_f1 : (s.passReading).f1 = s.f1 := rfl
@[simp] theorem State.passReading_f2 : (s.passReading).f2 = s.f2 := rfl
@[simp] theorem State.passReading_word : (s.passReading).word = s.word := rfl
@[simp] theorem State.passReading_newWord : (s.passReading).newWord = s.newWord := rfl
@[simp] theorem State.passReading_wAck : (s.passReading).wAck = s.wAck := rfl
@[simp] theorem State.passReading_tRaw : (s.passReading).tRaw = rawReading s.b0 s.b1 := rfl
@[simp] theorem State.passReading_tNum : (s.passReading).tNum = s.tNum := rfl
@[simp] theorem State.passReading_trace : (s.passReading).trace = s.trace := rfl
@[simp] theorem State.passReading_records : (s.passReading).records = s.records := rfl
@[simp] theorem State.passReading_commands : (s.passReading).commands = s.commands := rfl
@[simp] theorem State.passReading_answers : (s.passReading).answers = s.answers := rfl
@[simp] theorem State.passReading_samples : (s.passReading).samples = s.samples := rfl

/-! ## patch -/

@[simp] theorem State.patch_devAddr : (s.patch).devAddr = s.devAddr := rfl
@[simp] theorem State.patch_zeroOffset : (s.patch).zeroOffset = s.zeroOffset := rfl
@[simp] theorem State.patch_sens : (s.patch).sens = s.sens := rfl
@[simp] theorem State.patch_pwr : (s.patch).pwr = s.pwr := rfl
@[simp] theorem State.patch_busy : (s.patch).busy = s.busy := rfl
@[simp] theorem State.patch_seqOp : (s.patch).seqOp = s.seqOp := rfl
@[simp] theorem State.patch_seqStep : (s.patch).seqStep = s.seqStep := rfl
@[simp] theorem State.patch_seqSub : (s.patch).seqSub = s.seqSub := rfl
@[simp] theorem State.patch_tReg : (s.patch).tReg = s.tReg := rfl
@[simp] theorem State.patch_b0 : (s.patch).b0 = s.b0 := rfl
@[simp] theorem State.patch_b1 : (s.patch).b1 = s.b1 := rfl
@[simp] theorem State.patch_tOld : (s.patch).tOld = s.tOld := rfl
@[simp] theorem State.patch_tNew : (s.patch).tNew = s.tNew := rfl
@[simp] theorem State.patch_f0 : (s.patch).f0 = s.f0 := rfl
@[simp] theorem State.patch_f1 : (s.patch).f1 = s.f1 := rfl
@[simp] theorem State.patch_f2 : (s.patch).f2 = s.f2 := rfl
@[simp] theorem State.patch_word : (s.patch).word = s.word := rfl
@[simp] theorem State.patch_newWord : (s.patch).newWord = patchWord s.word s.tNew := rfl
@[simp] theorem State.patch_wAck : (s.patch).wAck = s.wAck := rfl
@[simp] theorem State.patch_tRaw : (s.patch).tRaw = s.tRaw := rfl
@[simp] theorem State.patch_tNum : (s.patch).tNum = s.tNum := rfl
@[simp] theorem State.patch_trace : (s.patch).trace = s.trace := rfl
@[simp] theorem State.patch_records : (s.patch).records = s.records := rfl
@[simp] theorem State.patch_commands : (s.patch).commands = s.commands := rfl
@[simp] theorem State.patch_answers : (s.patch).answers = s.answers := rfl
@[simp] theorem State.patch_samples : (s.patch).samples = s.samples := rfl

/-! ## latchReg -/

@[simp] theorem State.latchReg_devAddr (r : Byte) : (s.latchReg r).devAddr = s.devAddr := rfl
@[simp] theorem State.latchReg_zeroOffset (r : Byte) : (s.latchReg r).zeroOffset = s.zeroOffset := rfl
@[simp] theorem State.latchReg_sens (r : Byte) : (s.latchReg r).sens = s.sens := rfl
@[simp] theorem State.latchReg_pwr (r : Byte) : (s.latchReg r).pwr = s.pwr := rfl
@[simp] theorem State.latchReg_busy (r : Byte) : (s.latchReg r).busy = s.busy := rfl
@[simp] theorem State.latchReg_seqOp (r : Byte) : (s.latchReg r).seqOp = s.seqOp := rfl
@[simp] theorem State.latchReg_seqStep (r : Byte) : (s.latchReg r).seqStep = s.seqStep := rfl
@[simp] theorem State.latchReg_seqSub (r : Byte) : (s.latchReg r).seqSub = s.seqSub := rfl
@[simp] theorem State.latchReg_tReg (r : Byte) : (s.latchReg r).tReg = r := rfl
@[simp] theorem State.latchReg_b0 (r : Byte) : (s.latchReg r).b0 = s.b0 := rfl
@[simp] theorem State.latchReg_b1 (r : Byte) : (s.latchReg r).b1 = s.b1 := rfl
@[simp] theorem State.latchReg_tOld (r : Byte) : (s.latchReg r).tOld = s.tOld := rfl
@[simp] theorem State.latchReg_tNew (r : Byte) : (s.latchReg r).tNew = s.tNew := rfl
@[simp] theorem State.latchReg_f0 (r : Byte) : (s.latchReg r).f0 = s.f0 := rfl
@[simp] theorem State.latchReg_f1 (r : Byte) : (s.latchReg r).f1 = s.f1 := rfl
@[simp] theorem State.latchReg_f2 (r : Byte) : (s.latchReg r).f2 = s.f2 := rfl
@[simp] theorem State.latchReg_word (r : Byte) : (s.latchReg r).word = s.word := rfl
@[simp] theorem State.latchReg_newWord (r : Byte) : (s.latchReg r).newWord = s.newWord := rfl
@[simp] theorem State.latchReg_wAck (r : Byte) : (s.latchReg r).wAck = s.wAck := rfl
@[simp] theorem State.latchReg_tRaw (r : Byte) : (s.latchReg r).tRaw = s.tRaw := rfl
@[simp] theorem State.latchReg_tNum (r : Byte) : (s.latchReg r).tNum = s.tNum := rfl
@[simp] theorem State.latchReg_trace (r : Byte) : (s.latchReg r).trace = s.trace := rfl
@[simp] theorem State.latchReg_records (r : Byte) : (s.latchReg r).records = s.records := rfl
@[simp] theorem State.latchReg_commands (r : Byte) : (s.latchReg r).commands = s.commands := rfl
@[simp] theorem State.latchReg_answers (r : Byte) : (s.latchReg r).answers = s.answers := rfl
@[simp] theorem State.latchReg_samples (r : Byte) : (s.latchReg r).samples = s.samples := rfl

/-! ## latchRawOperand -/

@[simp] theorem State.latchRawOperand_devAddr (r : U16) : (s.latchRawOperand r).devAddr = s.devAddr := rfl
@[simp] theorem State.latchRawOperand_zeroOffset (r : U16) : (s.latchRawOperand r).zeroOffset = s.zeroOffset := rfl
@[simp] theorem State.latchRawOperand_sens (r : U16) : (s.latchRawOperand r).sens = s.sens := rfl
@[simp] theorem State.latchRawOperand_pwr (r : U16) : (s.latchRawOperand r).pwr = s.pwr := rfl
@[simp] theorem State.latchRawOperand_busy (r : U16) : (s.latchRawOperand r).busy = s.busy := rfl
@[simp] theorem State.latchRawOperand_seqOp (r : U16) : (s.latchRawOperand r).seqOp = s.seqOp := rfl
@[simp] theorem State.latchRawOperand_seqStep (r : U16) : (s.latchRawOperand r).seqStep = s.seqStep := rfl
@[simp] theorem State.latchRawOperand_seqSub (r : U16) : (s.latchRawOperand r).seqSub = s.seqSub := rfl
@[simp] theorem State.latchRawOperand_tReg (r : U16) : (s.latchRawOperand r).tReg = s.tReg := rfl
@[simp] theorem State.latchRawOperand_b0 (r : U16) : (s.latchRawOperand r).b0 = s.b0 := rfl
@[simp] theorem State.latchRawOperand_b1 (r : U16) : (s.latchRawOperand r).b1 = s.b1 := rfl
@[simp] theorem State.latchRawOperand_tOld (r : U16) : (s.latchRawOperand r).tOld = s.tOld := rfl
@[simp] theorem State.latchRawOperand_tNew (r : U16) : (s.latchRawOperand r).tNew = s.tNew := rfl
@[simp] theorem State.latchRawOperand_f0 (r : U16) : (s.latchRawOperand r).f0 = s.f0 := rfl
@[simp] theorem State.latchRawOperand_f1 (r : U16) : (s.latchRawOperand r).f1 = s.f1 := rfl
@[simp] theorem State.latchRawOperand_f2 (r : U16) : (s.latchRawOperand r).f2 = s.f2 := rfl
@[simp] theorem State.latchRawOperand_word (r : U16) : (s.latchRawOperand r).word = s.word := rfl
@[simp] theorem State.latchRawOperand_newWord (r : U16) : (s.latchRawOperand r).newWord = s.newWord := rfl
@[simp] theorem State.latchRawOperand_wAck (r : U16) : (s.latchRawOperand r).wAck = s.wAck := rfl
@[simp] theorem State.latchRawOperand_tRaw (r : U16) : (s.latchRawOperand r).tRaw = r := rfl
@[simp] theorem State.latchRawOperand_tNum (r : U16) : (s.latchRawOperand r).tNum = s.tNum := rfl
@[simp] theorem State.latchRawOperand_trace (r : U16) : (s.latchRawOperand r).trace = s.trace := rfl
@[simp] theorem State.latchRawOperand_records (r : U16) : (s.latchRawOperand r).records = s.records := rfl
@[simp] theorem State.latchRawOperand_commands (r : U16) : (s.latchRawOperand r).commands = s.commands := rfl
@[simp] theorem State.latchRawOperand_answers (r : U16) : (s.latchRawOperand r).answers = s.answers := rfl
@[simp] theorem State.latchRawOperand_samples (r : U16) : (s.latchRawOperand r).samples = s.samples := rfl

/-! ## latchOperands -/

@[simp] theorem State.latchOperands_devAddr (r : U16) (n : Num) : (s.latchOperands r n).devAddr = s.devAddr := rfl
@[simp] theorem State.latchOperands_zeroOffset (r : U16) (n : Num) : (s.latchOperands r n).zeroOffset = s.zeroOffset := rfl
@[simp] theorem State.latchOperands_sens (r : U16) (n : Num) : (s.latchOperands r n).sens = s.sens := rfl
@[simp] theorem State.latchOperands_pwr (r : U16) (n : Num) : (s.latchOperands r n).pwr = s.pwr := rfl
@[simp] theorem State.latchOperands_busy (r : U16) (n : Num) : (s.latchOperands r n).busy = s.busy := rfl
@[simp] theorem State.latchOperands_seqOp (r : U16) (n : Num) : (s.latchOperands r n).seqOp = s.seqOp := rfl
@[simp] theorem State.latchOperands_seqStep (r : U16) (n : Num) : (s.latchOperands r n).seqStep = s.seqStep := rfl
@[simp] theorem State.latchOperands_seqSub (r : U16) (n : Num) : (s.latchOperands r n).seqSub = s.seqSub := rfl
@[simp] theorem State.latchOperands_tReg (r : U16) (n : Num) : (s.latchOperands r n).tReg = s.tReg := rfl
@[simp] theorem State.latchOperands_b0 (r : U16) (n : Num) : (s.latchOperands r n).b0 = s.b0 := rfl
@[simp] theorem State.latchOperands_b1 (r : U16) (n : Num) : (s.latchOperands r n).b1 = s.b1 := rfl
@[simp] theorem State.latchOperands_tOld (r : U16) (n : Num) : (s.latchOperands r n).tOld = s.tOld := rfl
@[simp] theorem State.latchOperands_tNew (r : U16) (n : Num) : (s.latchOperands r n).tNew = s.tNew := rfl
@[simp] theorem State.latchOperands_f0 (r : U16) (n : Num) : (s.latchOperands r n).f0 = s.f0 := rfl
@[simp] theorem State.latchOperands_f1 (r : U16) (n : Num) : (s.latchOperands r n).f1 = s.f1 := rfl
@[simp] theorem State.latchOperands_f2 (r : U16) (n : Num) : (s.latchOperands r n).f2 = s.f2 := rfl
@[simp] theorem State.latchOperands_word (r : U16) (n : Num) : (s.latchOperands r n).word = s.word := rfl
@[simp] theorem State.latchOperands_newWord (r : U16) (n : Num) : (s.latchOperands r n).newWord = s.newWord := rfl
@[simp] theorem State.latchOperands_wAck (r : U16) (n : Num) : (s.latchOperands r n).wAck = s.wAck := rfl
@[simp] theorem State.latchOperands_tRaw (r : U16) (n : Num) : (s.latchOperands r n).tRaw = r := rfl
@[simp] theorem State.latchOperands_tNum (r : U16) (n : Num) : (s.latchOperands r n).tNum = n := rfl
@[simp] theorem State.latchOperands_trace (r : U16) (n : Num) : (s.latchOperands r n).trace = s.trace := rfl
@[simp] theorem State.latchOperands_records (r : U16) (n : Num) : (s.latchOperands r n).records = s.records := rfl
@[simp] theorem State.latchOperands_commands (r : U16) (n : Num) : (s.latchOperands r n).commands = s.commands := rfl
@[simp] theorem State.latchOperands_answers (r : U16) (n : Num) : (s.latchOperands r n).answers = s.answers := rfl
@[simp] theorem State.latchOperands_samples (r : U16) (n : Num) : (s.latchOperands r n).samples = s.samples := rfl

/-! ## latchSample -/

@[simp] theorem State.latchSample_devAddr (r : U16) (n : Num) : (s.latchSample r n).devAddr = s.devAddr := rfl
@[simp] theorem State.latchSample_zeroOffset (r : U16) (n : Num) : (s.latchSample r n).zeroOffset = s.zeroOffset := rfl
@[simp] theorem State.latchSample_sens (r : U16) (n : Num) : (s.latchSample r n).sens = s.sens := rfl
@[simp] theorem State.latchSample_pwr (r : U16) (n : Num) : (s.latchSample r n).pwr = s.pwr := rfl
@[simp] theorem State.latchSample_busy (r : U16) (n : Num) : (s.latchSample r n).busy = s.busy := rfl
@[simp] theorem State.latchSample_seqOp (r : U16) (n : Num) : (s.latchSample r n).seqOp = s.seqOp := rfl
@[simp] theorem State.latchSample_seqStep (r : U16) (n : Num) : (s.latchSample r n).seqStep = s.seqStep := rfl
@[simp] theorem State.latchSample_seqSub (r : U16) (n : Num) : (s.latchSample r n).seqSub = s.seqSub := rfl
@[simp] theorem State.latchSample_tReg (r : U16) (n : Num) : (s.latchSample r n).tReg = s.tReg := rfl
@[simp] theorem State.latchSample_b0 (r : U16) (n : Num) : (s.latchSample r n).b0 = s.b0 := rfl
@[simp] theorem State.latchSample_b1 (r : U16) (n : Num) : (s.latchSample r n).b1 = s.b1 := rfl
@[simp] theorem State.latchSample_tOld (r : U16) (n : Num) : (s.latchSample r n).tOld = s.tOld := rfl
@[simp] theorem State.latchSample_tNew (r : U16) (n : Num) : (s.latchSample r n).tNew = s.tNew := rfl
@[simp] theorem State.latchSample_f0 (r : U16) (n : Num) : (s.latchSample r n).f0 = s.f0 := rfl
@[simp] theorem State.latchSample_f1 (r : U16) (n : Num) : (s.latchSample r n).f1 = s.f1 := rfl
@[simp] theorem State.latchSample_f2 (r : U16) (n : Num) : (s.latchSample r n).f2 = s.f2 := rfl
@[simp] theorem State.latchSample_word (r : U16) (n : Num) : (s.latchSample r n).word = s.word := rfl
@[simp] theorem State.latchSample_newWord (r : U16) (n : Num) : (s.latchSample r n).newWord = s.newWord := rfl
@[simp] theorem State.latchSample_wAck (r : U16) (n : Num) : (s.latchSample r n).wAck = s.wAck := rfl
@[simp] theorem State.latchSample_tRaw (r : U16) (n : Num) : (s.latchSample r n).tRaw = r := rfl
@[simp] theorem State.latchSample_tNum (r : U16) (n : Num) : (s.latchSample r n).tNum = n := rfl
@[simp] theorem State.latchSample_trace (r : U16) (n : Num) : (s.latchSample r n).trace = s.trace := rfl
@[simp] theorem State.latchSample_records (r : U16) (n : Num) : (s.latchSample r n).records = s.records := rfl
@[simp] theorem State.latchSample_commands (r : U16) (n : Num) : (s.latchSample r n).commands = s.commands := rfl
@[simp] theorem State.latchSample_answers (r : U16) (n : Num) : (s.latchSample r n).answers = s.answers := rfl
@[simp] theorem State.latchSample_samples (r : U16) (n : Num) : (s.latchSample r n).samples = s.samples := rfl

/-! ## latchAddresses -/

@[simp] theorem State.latchAddresses_devAddr (a : U7) : (s.latchAddresses a).devAddr = s.devAddr := rfl
@[simp] theorem State.latchAddresses_zeroOffset (a : U7) : (s.latchAddresses a).zeroOffset = s.zeroOffset := rfl
@[simp] theorem State.latchAddresses_sens (a : U7) : (s.latchAddresses a).sens = s.sens := rfl
@[simp] theorem State.latchAddresses_pwr (a : U7) : (s.latchAddresses a).pwr = s.pwr := rfl
@[simp] theorem State.latchAddresses_busy (a : U7) : (s.latchAddresses a).busy = s.busy := rfl
@[simp] theorem State.latchAddresses_seqOp (a : U7) : (s.latchAddresses a).seqOp = s.seqOp := rfl
@[simp] theorem State.latchAddresses_seqStep (a : U7) : (s.latchAddresses a).seqStep = s.seqStep := rfl
@[simp] theorem State.latchAddresses_seqSub (a : U7) : (s.latchAddresses a).seqSub = s.seqSub := rfl
@[simp] theorem State.latchAddresses_tReg (a : U7) : (s.latchAddresses a).tReg = s.tReg := rfl
@[simp] theorem State.latchAddresses_b0 (a : U7) : (s.latchAddresses a).b0 = s.b0 := rfl
@[simp] theorem State.latchAddresses_b1 (a : U7) : (s.latchAddresses a).b1 = s.b1 := rfl
@[simp] theorem State.latchAddresses_tOld (a : U7) : (s.latchAddresses a).tOld = s.devAddr := rfl
@[simp] theorem State.latchAddresses_tNew (a : U7) : (s.latchAddresses a).tNew = a := rfl
@[simp] theorem State.latchAddresses_f0 (a : U7) : (s.latchAddresses a).f0 = s.f0 := rfl
@[simp] theorem State.latchAddresses_f1 (a : U7) : (s.latchAddresses a).f1 = s.f1 := rfl
@[simp] theorem State.latchAddresses_f2 (a : U7) : (s.latchAddresses a).f2 = s.f2 := rfl
@[simp] theorem State.latchAddresses_word (a : U7) : (s.latchAddresses a).word = s.word := rfl
@[simp] theorem State.latchAddresses_newWord (a : U7) : (s.latchAddresses a).newWord = s.newWord := rfl
@[simp] theorem State.latchAddresses_wAck (a : U7) : (s.latchAddresses a).wAck = false := rfl
@[simp] theorem State.latchAddresses_tRaw (a : U7) : (s.latchAddresses a).tRaw = s.tRaw := rfl
@[simp] theorem State.latchAddresses_tNum (a : U7) : (s.latchAddresses a).tNum = s.tNum := rfl
@[simp] theorem State.latchAddresses_trace (a : U7) : (s.latchAddresses a).trace = s.trace := rfl
@[simp] theorem State.latchAddresses_records (a : U7) : (s.latchAddresses a).records = s.records := rfl
@[simp] theorem State.latchAddresses_commands (a : U7) : (s.latchAddresses a).commands = s.commands := rfl
@[simp] theorem State.latchAddresses_answers (a : U7) : (s.latchAddresses a).answers = s.answers := rfl
@[simp] theorem State.latchAddresses_samples (a : U7) : (s.latchAddresses a).samples = s.samples := rfl

end Sys2Proof.Machine
end

