-- ==== Sys2Proof/Laws/Ops.lean ====
section
/-! SUPPORT. What each shared operation can do, said once: the primitives, ending an operation, the advance of the
control position, and one step. -/

namespace Sys2Proof.Machine

open Sys2Proof.Config

/-! ## Primitives -/

/-- A call that delivers no bytes is unanswered, failed or completed, with these states. -/
theorem transact_cases (event : Mark → Event) (s : State) :
    (s.answers = [] ∧ transact event s = .pending) ∨
    (∃ rest, s.answers = .fail :: rest ∧ transact event s = .failed (s.dropAnswer.emit (event .failed))) ∨
    (∃ x rest, s.answers = .complete x :: rest ∧
      transact event s = .done [] (s.dropAnswer.emit (event .completed))) := by
  unfold transact
  split <;> simp_all

/-- A read is unanswered, failed (also when it delivers too few bytes) or completed with exactly `n` bytes. -/
theorem busRead_cases (dev : U7) (reg : Byte) (n : Nat) (s : State) :
    (s.answers = [] ∧ busRead dev reg n s = .pending) ∨
    (busRead dev reg n s = .failed (s.dropAnswer.emit (.rd dev reg n none))) ∨
    (∃ x rest, s.answers = .complete x :: rest ∧ (x.take n).length = n ∧
      busRead dev reg n s = .done (x.take n) (s.dropAnswer.emit (.rd dev reg n (some (x.take n))))) := by
  unfold busRead
  split
  · simp_all
  · simp_all
  · split
    · simp_all
    · simp_all

@[simp] theorem settle_pending (s : State) (use : List Byte → State → State) :
    Attempt.settle .pending s use = s := rfl

@[simp] theorem settle_failed (s t : State) (use : List Byte → State → State) :
    Attempt.settle (.failed t) s use = t.raiseTransport := rfl

@[simp] theorem settle_done (s t : State) (reply : List Byte) (use : List Byte → State → State) :
    Attempt.settle (.done reply t) s use = use reply t := rfl

/-- A register select: held, aborted or completed. -/
theorem issueSel_cases (reg : Byte) (s : State) :
    (s.answers = [] ∧ issueSel reg s = s) ∨
    (∃ rest, s.answers = .fail :: rest ∧
      issueSel reg s = (s.dropAnswer.emit (.sel s.devAddr reg .failed)).raiseTransport) ∨
    (∃ x rest, s.answers = .complete x :: rest ∧
      issueSel reg s = (s.dropAnswer.emit (.sel s.devAddr reg .completed)).advance) := by
  unfold issueSel busSel
  rcases transact_cases (.sel s.devAddr reg) s with ⟨h, e⟩ | ⟨r, h, e⟩ | ⟨x, r, h, e⟩ <;> simp [h, e]

/-- A command write: held, aborted or completed. -/
theorem issueWr_cases (cmd p0 p1 : Byte) (s : State) :
    (s.answers = [] ∧ issueWr cmd p0 p1 s = s) ∨
    (∃ rest, s.answers = .fail :: rest ∧
      issueWr cmd p0 p1 s = (s.dropAnswer.emit (.wr s.tOld cmd p0 p1 .failed)).raiseTransport) ∨
    (∃ x rest, s.answers = .complete x :: rest ∧
      issueWr cmd p0 p1 s = (s.dropAnswer.emit (.wr s.tOld cmd p0 p1 .completed)).advance) := by
  unfold issueWr busWrite
  rcases transact_cases (.wr s.tOld cmd p0 p1) s with ⟨h, e⟩ | ⟨r, h, e⟩ | ⟨x, r, h, e⟩ <;> simp [h, e]

/-- A drive of the power-control line: held, aborted with `PWR` as it was, or completed with `PWR` at the level. -/
theorem issuePin_cases (level : BitVec 1) (s : State) :
    (s.answers = [] ∧ issuePin level s = s) ∨
    (∃ rest, s.answers = .fail :: rest ∧
      issuePin level s = (s.dropAnswer.emit (.pin level .failed)).raiseTransport) ∨
    (∃ x rest, s.answers = .complete x :: rest ∧
      issuePin level s = ((s.dropAnswer.emit (.pin level .completed)).setPwr level).advance) := by
  unfold issuePin pinWrite
  rcases transact_cases (.pin level) s with ⟨h, e⟩ | ⟨r, h, e⟩ | ⟨x, r, h, e⟩ <;> simp [h, e]

/-- The 2-byte block read: held, aborted or completed with the two bytes latched. -/
theorem issueRd_cases (reg : Byte) (s : State) :
    (s.answers = [] ∧ issueRd reg s = s) ∨
    (issueRd reg s = (s.dropAnswer.emit (.rd s.devAddr reg 2 none)).raiseTransport) ∨
    (∃ b0 b1 more rest, s.answers = .complete (b0 :: b1 :: more) :: rest ∧
      issueRd reg s = ((s.dropAnswer.emit (.rd s.devAddr reg 2 (some [b0, b1]))).latchRaw [b0, b1]).advance) := by
  unfold issueRd
  rcases busRead_cases s.devAddr reg 2 s with ⟨h, e⟩ | e | ⟨x, r, h, hx, e⟩
  · simp [h, e]
  · simp [e]
  · right; right
    match x, hx with
    | b0 :: b1 :: more, _ => exact ⟨b0, b1, more, r, h, by simp [e]⟩

/-- The 3-byte fetch: held, aborted or completed with the reply latched. -/
theorem issueFetch_cases (s : State) :
    (s.answers = [] ∧ issueFetch s = s) ∨
    (issueFetch s = (s.dropAnswer.emit (.rd s.tOld regFetch 3 none)).raiseTransport) ∨
    (∃ f0 f1 f2 more rest, s.answers = .complete (f0 :: f1 :: f2 :: more) :: rest ∧
      issueFetch s =
        ((s.dropAnswer.emit (.rd s.tOld regFetch 3 (some [f0, f1, f2]))).latchFetch [f0, f1, f2]).advance) := by
  unfold issueFetch
  rcases busRead_cases s.tOld regFetch 3 s with ⟨h, e⟩ | e | ⟨x, r, h, hx, e⟩
  · simp [h, e]
  · simp [e]
  · right; right
    match x, hx with
    | f0 :: f1 :: f2 :: more, _ => exact ⟨f0, f1, f2, more, r, h, by simp [e]⟩

/-! ## Ending an operation and the control position -/

/-- The record an error delivers. -/
def errorRecord (s : State) (status : Status) (failStep : BitVec 4) : Completion :=
  { status := status, warnAck := reportedWarning s, failStep := failStep, resRaw := none, resNum := none }

/-- An error ends a running operation with its record and nothing else. -/
theorem raiseError_running (s : State) (status : Status) (failStep : BitVec 4) (h : s.seqOp ≠ .idle) :
    s.raiseError status failStep = s.deliver (errorRecord s status failStep) := by
  simp [State.raiseError, h, errorRecord]

/-- With no operation running an error changes nothing. -/
theorem raiseError_idle (s : State) (status : Status) (failStep : BitVec 4) (h : s.seqOp = .idle) :
    s.raiseError status failStep = s := by
  simp [State.raiseError, h]

/-- The advance goes to the next sub-position, to the next step, or completes. -/
theorem advance_cases (s : State) :
    (s.seqOp = .idle ∧ s.advance = s) ∨
    (s.seqOp ≠ .idle ∧ s.seqSub ≠ lastSub s.seqOp s.seqStep ∧ s.advance = s.goTo s.seqStep (s.seqSub + 1)) ∨
    (s.seqOp ≠ .idle ∧ s.seqSub = lastSub s.seqOp s.seqStep ∧ s.seqStep ≠ lastStep s.seqOp ∧
      s.advance = s.goTo (s.seqStep + 1) 0) ∨
    (s.seqOp ≠ .idle ∧ s.seqSub = lastSub s.seqOp s.seqStep ∧ s.seqStep = lastStep s.seqOp ∧
      s.advance = s.complete none none) := by
  unfold State.advance
  by_cases h1 : s.seqOp = .idle
  · simp [h1]
  · by_cases h2 : s.seqSub = lastSub s.seqOp s.seqStep
    · by_cases h3 : s.seqStep = lastStep s.seqOp
      · simp [h1, h2, h3]
      · simp [h1, h2, h3]
    · simp [h1, h2]

/-- A single tick of a run. -/
@[simp] theorem runSeq_zero (s : State) : runSeq 0 s = s := rfl

@[simp] theorem runSeq_succ (n : Nat) (s : State) : runSeq (n + 1) s = runSeq n (tick s) := rfl

/-- While busy an operation is not accepted. -/
theorem operate_busy (op : SeqOp) (latched s : State) (h : s.busy = true) : operate op latched s = s := by
  simp [operate, h]

/-- While not busy an operation runs from its first step. -/
theorem operate_ready (op : SeqOp) (latched s : State) (h : s.busy = false) :
    operate op latched s = runSeq (seqLength op) (latched.start op) := by
  simp [operate, h]

/-! ## One step -/

/-- A step runs the fetched row, or makes the internal step. -/
theorem step_cases (s : State) :
    (∃ i t, fetch s = some (i, t) ∧ step s = exec i t) ∨ (fetch s = none ∧ step s = .next (internalStep s)) := by
  unfold step
  rcases h : fetch s with _ | ⟨i, t⟩ <;> simp

/-- While busy, the row the sequencer issues next does exactly the micro-step at the control position. -/
theorem exec_nextFrame (s : State) (i : Instr) (h : s.nextFrame = some i) : exec i s = .next (tick s) := by
  unfold tick
  unfold State.nextFrame at h
  rcases hm : s.micro <;> simp [hm] at h <;> subst h <;> rfl

/-- While busy a step is one micro-step. -/
theorem step_busy (s : State) (h : s.busy = true) : step s = .next (tick s) := by
  unfold step fetch
  rcases hf : s.nextFrame with _ | i
  · simp [h, internalStep]
  · simp [h, exec_nextFrame s i hf]

/-- While idle a step runs the command presented, or nothing. -/
theorem step_ready (s : State) (h : s.busy = false) :
    (s.commands = [] ∧ step s = .next s) ∨
    (∃ c cs, s.commands = c :: cs ∧ step s = exec (decodeHost c) s.dropCommand) := by
  unfold step fetch
  rcases hc : s.commands with _ | ⟨c, cs⟩
  · simp [h, internalStep]
  · simp [h]

end Sys2Proof.Machine
end

