-- ==== Sys2Proof/Safety.lean ====
section
/-! DEFINITION. What counts as a safe run, in the terms the statements use: the invariant of the sequencer, the legality
of every record and every event, and runs of several steps. -/

namespace Sys2Proof.Machine

open Sys2Proof.Config

/-- The level `PWR` has at a control position of CHADDR; `none` where any level is possible, before the first event
(42_address_change.md R118, R126, R140). -/
def expectedPwr (step : BitVec 4) (sub : BitVec 2) : Option (BitVec 1) :=
  if step = 1 ∧ sub = 0 then none
  else if (step = 1 ∨ step = 8) ∧ (sub = 1 ∨ sub = 2) then some 0
  else some 1

/-- The invariant of the sequencer. -/
structure SeqInv (s : State) : Prop where
  /-- `BUSY` is 1 exactly while an operation runs (10_state.md R21) -/
  busy_iff : s.busy = true ↔ s.seqOp ≠ .idle
  /-- the control position of Idle (log 8) -/
  idle_position : s.seqOp = .idle → s.seqStep = 0 ∧ s.seqSub = 0
  /-- the control position is a step of the running operation (R22) -/
  legal_position : s.seqOp ≠ .idle → s.micro ≠ .hold
  /-- CHADDR addresses the handle's own device (42_address_change.md R131) -/
  old_address : s.seqOp = .chaddr → s.tOld = s.devAddr
  /-- `PWR` follows the power cycles (R118, R126) -/
  power : s.seqOp = .chaddr → ∀ level, expectedPwr s.seqStep s.seqSub = some level → s.pwr = level
  /-- `W_ACK` is clear until the fetch (R116) -/
  warn_before : s.seqOp = .chaddr → s.seqStep.toNat ≤ 4 → s.wAck = false
  /-- after the fetch `WORD` and `W_ACK` are those of the reply (R121, R122) -/
  fetched : s.seqOp = .chaddr → 5 ≤ s.seqStep.toNat → s.word = fetchedWord s.f0 s.f2 ∧ s.wAck = ackMismatch s.f0
  /-- after the patch `NEW_WORD` is the patched word (R123) -/
  patched : s.seqOp = .chaddr → 6 ≤ s.seqStep.toNat → s.newWord = patchWord s.word s.tNew
  /-- RDFORCE reads register 0x06 (43_composition.md R142), which it holds in `T_REG` (log 9) -/
  force_register : s.seqOp = .rdforce → s.tReg = forceReg
  /-- RDFORCE converts the reading of its own read (R142), which it holds in `T_RAW` (log 9) -/
  force_reading : s.seqOp = .rdforce → s.seqStep = 5 → s.tRaw = rawReading s.b0 s.b1
  /-- CALIB's unloaded sample is the zero offset once it is captured (R144) -/
  captured : s.seqOp = .calib → s.seqStep = 3 → s.zeroOffset = s.tRaw

/-- A completion record with fields that go together (10_state.md R26, 60_exceptions.md R153 to R157, R161). -/
def Completion.Legal (c : Completion) : Prop :=
  match c.status with
  | .ok => c.failStep = 0 ∧ (c.warnAck = true → c.resRaw = none ∧ c.resNum = none)
      ∧ (c.resRaw = none ∨ c.resNum = none)
  | .transportError => (c.failStep = 1 ∨ c.failStep = 3) ∧ c.warnAck = false ∧ c.resRaw = none ∧ c.resNum = none
  | .degenerateCalibration => c.failStep = 0 ∧ c.warnAck = false ∧ c.resRaw = none ∧ c.resNum = none
  | .protocolAborted =>
      (c.failStep = 1 ∨ c.failStep = 2 ∨ c.failStep = 3 ∨ c.failStep = 4 ∨ c.failStep = 6 ∨ c.failStep = 7
        ∨ c.failStep = 8)
      ∧ (c.warnAck = true → c.failStep = 6 ∨ c.failStep = 7 ∨ c.failStep = 8)
      ∧ c.resRaw = none ∧ c.resNum = none
  | .illegalCommand => c.failStep = 0 ∧ c.warnAck = false ∧ c.resRaw = none ∧ c.resNum = none

/-- An event the block may put on the bus of a handle at `address`: only its own device is addressed, reads are of 2
bytes or of 3 bytes from register 0x00 and deliver as many, and command writes are the four frames of 30_encoding.md
R68, R69, with a payload of the shape of 42_address_change.md R135 (20_memory.md R53). -/
def Event.Legal (address : U7) : Event → Prop
  | .sel dev _ _ => dev = address
  | .rd dev reg n reply =>
      dev = address ∧ (n = 2 ∨ (n = 3 ∧ reg = regFetch)) ∧ ∀ bytes, reply = some bytes → bytes.length = n
  | .wr dev cmd p0 p1 _ =>
      dev = address ∧
        ((cmd = cmdWriteWord2 ∧ writableHighByte p0 = true)
          ∨ ((cmd = cmdEnter ∨ cmd = cmdReqWord2 ∨ cmd = cmdExit) ∧ p0 = 0 ∧ p1 = 0))
  | .pin _ _ => True
  | .wait _ => True

/-- Every record delivered so far is legal. -/
def RecordsLegal (s : State) : Prop :=
  ∀ c ∈ s.records, c.Legal

/-- Every event issued so far is legal for this handle. -/
def TraceLegal (s : State) : Prop :=
  ∀ e ∈ s.trace, e.Legal s.devAddr

/-- `t` is reached from `s` by `n` steps of the machine. -/
def Reaches (n : Nat) (s t : State) : Prop :=
  Sys2Proof.core.run n s = .next t

end Sys2Proof.Machine
end

