-- ==== Sys2Proof/Certificates/Slice0/Obligations.lean ====
section
/-! DEFINITION. The statements about the block, for the provers. Where a clause rests on a choice of the model or on a
decision the spec marks as its own, the docstring names the log entry. All of them use the model's record names. -/

namespace Sys2Proof.Claims

open Sys2Proof.Machine

/-- A record of an operation that ended normally. -/
def okRec (warn : Bool) (raw : Option U16) (num : Option Num) : Completion :=
  ⟨.ok, warn, 0, raw, num⟩

/-- A record of an operation that ended by an error, without a result. -/
def errRec (status : Status) (warn : Bool) (step : BitVec 4) : Completion :=
  ⟨status, warn, step, none, none⟩

/-- The four persistent registers of 10_state.md R15 are the same. -/
def SameRegisters (s t : State) : Prop :=
  t.devAddr = s.devAddr ∧ t.zeroOffset = s.zeroOffset ∧ t.sens = s.sens ∧ t.pwr = s.pwr

/-- The success trace of 42_address_change.md R132, the payload of event 10 written as R134 writes it. -/
def changeTrace (dev newAddress : U7) (f0 f1 f2 : Byte) : List Event :=
  [.pin 0 .completed, .wait .tOff, .pin 1 .completed, .wait .tSettle,
   .wr dev 0xA0 0x00 0x00 .completed, .wait .tCmd,
   .wr dev 0x02 0x00 0x00 .completed, .wait .tCmd,
   .rd dev 0x00 3 (some [f0, f1, f2]),
   .wr dev 0x42 (f0.extractLsb' 7 1 ++ 0b00011#5 ++ newAddress.extractLsb' 5 2)
     (newAddress.extractLsb' 0 5 ++ f2.extractLsb' 0 3) .completed, .wait .tCmd,
   .wr dev 0x80 0x00 0x00 .completed, .wait .tCmd,
   .pin 0 .completed, .wait .tOff, .pin 1 .completed, .wait .tSettle]

/-- The same event marked `FAILED`. -/
def markFailed : Event → Event
  | .sel dev reg _ => .sel dev reg .failed
  | .rd dev reg n _ => .rd dev reg n none
  | .wr dev cmd p0 p1 _ => .wr dev cmd p0 p1 .failed
  | .pin level _ => .pin level .failed
  | .wait d => .wait d

/-- What a bus row leaves in the trace when the transport fails it: its one event, marked `FAILED`, addressed to
`DEV_ADDR` for the two rows of the raw read and to `T_OLD` for the rows of the address change. -/
def failedEvents (s : State) : Instr → List Event
  | .busSelForce reg => [.sel s.devAddr reg .failed]
  | .busRdForce reg => [.rd s.devAddr reg 2 none]
  | .busEnterCm => [.wr s.tOld 0xA0 0x00 0x00 .failed]
  | .busReqWord2 => [.wr s.tOld 0x02 0x00 0x00 .failed]
  | .busFetchWord => [.rd s.tOld 0x00 3 none]
  | .busWriteWord2 h l => [.wr s.tOld 0x42 h l .failed]
  | .busExitCm => [.wr s.tOld 0x80 0x00 0x00 .failed]
  | .busPin v => [.pin v .failed]
  | .rdraw _ => []
  | .zcap _ => []
  | .calld _ _ => []
  | .fconv _ => []
  | .setcal _ _ => []
  | .chaddr _ => []
  | .rdforce => []
  | .calib => []
  | .reserved00 => []
  | .reserved09 => []
  | .reserved0A0B _ => []
  | .reserved0C0F _ => []
  | .reservedBit4 _ _ => []
  | .reservedBit5 _ _ => []
  | .reservedBit6 _ _ => []
  | .reservedBit7 _ => []

/-- The place in the success trace of the nine events that can fail, counted from 0 (R140, first column less one). -/
def failIndex (k : Nat) : Nat :=
  [0, 2, 4, 6, 8, 9, 11, 13, 15].getD k 0

/-- `FAIL_STEP` of the nine failure points (R140). -/
def failStepOf (k : Nat) : BitVec 4 :=
  [1, 1, 2, 3, 4, 6, 7, 8, 8].getD k 0

/-- The wait that must follow a completed call (70_reset_and_hazards.md R187 to R189, 42_address_change.md R118). -/
def requiredWait : Event → Option Delay
  | .sel _ _ .completed => some .tSel
  | .wr _ _ _ _ .completed => some .tCmd
  | .pin level .completed => if level = 0 then some .tOff else some .tSettle
  | .sel _ _ .failed => none
  | .wr _ _ _ _ .failed => none
  | .pin _ .failed => none
  | .rd _ _ _ _ => none
  | .wait _ => none

/-- Every completed call of a list of events is followed at once by its wait. -/
def WaitsKept (es : List Event) : Prop :=
  ∀ (i : Nat) (e : Event) (d : Delay), es[i]? = some e → requiredWait e = some d → es[i + 1]? = some (.wait d)

/-- What a step or an operation adds to the trace waits for `micros` in all. -/
def AddsWaits (s t : State) (micros : Nat) : Prop :=
  ∃ new : List Event, t.trace = s.trace ++ new ∧ (new.map Event.minMicros).sum = micros

/-- The operation ends: the block is idle again with exactly one record more. -/
def EndsWithOneRecord (i : Instr) (s : State) : Prop :=
  ∃ (t : State) (c : Completion),
    exec i s = .next t ∧ t.busy = false ∧ t.seqOp = .idle ∧ t.records = s.records ++ [c]

/-- An event without the middle byte of a 3-byte reply. -/
def hideMiddle : Event → Event
  | .rd dev reg n (some [f0, _, f2]) => .rd dev reg n (some [f0, 0, f2])
  | e => e

end Sys2Proof.Claims

open Sys2Proof Sys2Proof.Machine Sys2Proof.Config Sys2Proof.Claims

/-! ## Encodings -/

/-- The eight operation headers select their operations and take their operands from the ports the row lists, whatever
the other ports hold (R79, R80; the opcode values are the spec's decision D2). -/
def Obligations.OperationHeadersSelectTheirOperations : Prop :=
  ∀ (reg : Byte) (raw : U16) (num : Sys2Proof.Num) (addr : U7),
    decode (.host ⟨0x01, reg, raw, num, addr⟩) = .ok (.rdraw reg) ∧
    decode (.host ⟨0x02, reg, raw, num, addr⟩) = .ok (.zcap raw) ∧
    decode (.host ⟨0x03, reg, raw, num, addr⟩) = .ok (.calld raw num) ∧
    decode (.host ⟨0x04, reg, raw, num, addr⟩) = .ok (.fconv raw) ∧
    decode (.host ⟨0x05, reg, raw, num, addr⟩) = .ok (.setcal raw num) ∧
    decode (.host ⟨0x06, reg, raw, num, addr⟩) = .ok (.chaddr addr) ∧
    decode (.host ⟨0x07, reg, raw, num, addr⟩) = .ok .rdforce ∧
    decode (.host ⟨0x08, reg, raw, num, addr⟩) = .ok .calib

/-- A header that is none of 0x01 to 0x08 completes with IllegalCommand and nothing else, and each of 0x01 to 0x08
selects an operation row, not a reserved one (R81, R88; the codes are the spec's decisions D2, D15; log 11). -/
def Obligations.ReservedHeadersAreExactlyTheOthers : Prop :=
  ∀ (c : HostCmd) (s : State), s.busy = false →
    (exec (decodeHost c) s =
        .next { s with records := s.records ++ [errRec .illegalCommand false 0] }
      ↔ ¬ (1 ≤ c.hdr.toNat ∧ c.hdr.toNat ≤ 8))

/-- Decoding the words of an instruction gives the instruction back, for every well-formed instruction and every value of
its operands. -/
def Obligations.DecodeOfEncodeIsTheInstruction : Prop :=
  ∀ i : Instr, i.wellFormed = true → decode (encode i) = .ok i

/-- No bit of an encoding is dropped: a frame that decodes is the frame its row is written as, and a host header is the
header its row is written as. -/
def Obligations.EncodeOfDecodeKeepsTheWords : Prop :=
  (∀ (f : Frame) (i : Instr), decode (.bus f) = .ok i → encode i = .bus f) ∧
  (∀ c : HostCmd, ∃ c' : HostCmd, encode (decodeHost c) = .host c' ∧ c'.hdr = c.hdr)

/-- The frames of R69, byte for byte, are what the bus rows are written as and what reads back as them. -/
def Obligations.BusFramesAreBitExact : Prop :=
  (∀ reg : Byte, encode (.busSelForce reg) = .bus (.sel reg) ∧ (Frame.sel reg).written = [reg]) ∧
  (∀ reg : Byte, encode (.busRdForce reg) = .bus (.rd reg 2)) ∧
  encode .busEnterCm = .bus (.wr3 0xA0 0x00 0x00) ∧ (Frame.wr3 0xA0 0x00 0x00).written = [0xA0, 0x00, 0x00] ∧
  encode .busReqWord2 = .bus (.wr3 0x02 0x00 0x00) ∧
  encode .busFetchWord = .bus (.rd 0x00 3) ∧
  (∀ h l : Byte, encode (.busWriteWord2 h l) = .bus (.wr3 0x42 h l)) ∧
  encode .busExitCm = .bus (.wr3 0x80 0x00 0x00) ∧
  (∀ v : BitVec 1, encode (.busPin v) = .bus (.pin v))

/-- Words written out from the spec's encodings decode to the rows they stand for (R69, R79, R81). The numbering of the
words is log 13. The header 0xB6 fits the rows RESERVED_BIT4, RESERVED_BIT5 and RESERVED_BIT7 of R81, and that it decodes
to the row of its lowest set bit is the model's choice (log 11). -/
def Obligations.WordsOfTheTableDecode : Prop :=
  decodeTableWord 8 0x01 = some (.rdraw 0) ∧ decodeTableWord 8 0x08 = some .calib ∧
  decodeTableWord 8 0x0D = some (.reserved0C0F 1) ∧ decodeTableWord 8 0xB6 = some (.reservedBit4 5 6) ∧
  decodeTableWord 24 0xA00000 = some .busEnterCm ∧ decodeTableWord 24 0x420D54 = some (.busWriteWord2 0x0D 0x54) ∧
  decodeTableWord 24 0xA10000 = none

/-! ## Words and arithmetic -/

/-- The patch field by field: bits [15] and [2:0] are kept, [14:13] are `00`, [12:10] are `011`, [9:3] are the new
address. -/
def Obligations.PatchedWordFields : Prop :=
  ∀ (w : U16) (a : U7),
    (patchWord w a).extractLsb' 15 1 = w.extractLsb' 15 1 ∧
    (patchWord w a).extractLsb' 13 2 = 0b00 ∧
    (patchWord w a).extractLsb' 10 3 = 0b011 ∧
    (patchWord w a).extractLsb' 3 7 = a ∧
    (patchWord w a).extractLsb' 0 3 = w.extractLsb' 0 3

/-- Patching twice: the last address wins, and patching again with the same address changes nothing. -/
def Obligations.LastPatchWins : Prop :=
  ∀ (w : U16) (a b : U7), patchWord (patchWord w a) b = patchWord w b

/-- Of the reply only `F0[7]` and `F2[2:0]` reach the payload of the write, and of the address every bit does. -/
def Obligations.PayloadHoldsTheKeptReplyBits : Prop :=
  ∀ (f0 f2 : Byte) (a : U7),
    highByte (patchWord (fetchedWord f0 f2) a) = f0.extractLsb' 7 1 ++ 0b00011#5 ++ a.extractLsb' 5 2 ∧
    lowByte (patchWord (fetchedWord f0 f2) a) = a.extractLsb' 0 5 ++ f2.extractLsb' 0 3

/-- The difference is an exact integer from −65535 to 65535, zero only for equal operands, strictly increasing in the
raw value, and never a modular difference. -/
def Obligations.DifferenceIsExact : Prop :=
  ∀ r z : U16,
    -65535 ≤ diff r z ∧ diff r z ≤ 65535 ∧ (diff r z = 0 ↔ r = z) ∧
    (∀ r' : U16, r.toNat < r'.toNat → diff r z < diff r' z) ∧
    (r.toNat < z.toNat → diff r z < 0)

/-! ## Raw read -/

/-- RDRAW on a transport that completes both calls: the whole next state. The trace gains the three events, the record
holds the two bytes first byte high, and nothing else changes but the operand and byte latches. The control position
after the end is the model's choice (log 8), and so is that surplus bytes of an answer are ignored (log 14). -/
def Obligations.RdrawReturnsTheReading : Prop :=
  ∀ (s : State) (reg b0 b1 : Byte) (x more : List Byte) (rest : List Answer),
    s.busy = false →
    s.answers = .complete x :: .complete (b0 :: b1 :: more) :: rest →
    exec (.rdraw reg) s = .next { s with
      tReg := reg, b0 := b0, b1 := b1, busy := false, seqOp := .idle, seqStep := 0, seqSub := 0, answers := rest
      trace := s.trace ++ [.sel s.devAddr reg .completed, .wait .tSel, .rd s.devAddr reg 2 (some [b0, b1])]
      records := s.records ++ [okRec false (some (b0 ++ b1)) none] }

/-- The raw reading of R70: every reading RDRAW returns has the first byte in bits [15:8] and the second in bits [7:0]
and is their unsigned value, with the spec's worked example. -/
def Obligations.RawReadingIsHighByteFirst : Prop :=
  (∀ (s t : State) (reg b0 b1 : Byte) (x : List Byte) (rest : List Answer),
    s.busy = false → s.answers = .complete x :: .complete [b0, b1] :: rest → exec (.rdraw reg) s = .next t →
    ∃ raw : U16, t.records = s.records ++ [okRec false (some raw) none] ∧
      raw.extractLsb' 8 8 = b0 ∧ raw.extractLsb' 0 8 = b1 ∧
      raw = (b0.setWidth 16 <<< 8) ||| b1.setWidth 16 ∧ raw.toNat = 256 * b0.toNat + b1.toNat) ∧
  rawReading 0x12 0x34 = 0x1234

/-- RDRAW when the select fails, and when the read fails or delivers fewer than two bytes: the trace ends with the failed
event, `FAIL_STEP` is 1 or 3 (the spec's decision D9), there is no result, and no persistent register changes. -/
def Obligations.RdrawFailureEndsAtTheFailedEvent : Prop :=
  ∀ (s : State) (reg : Byte) (rest : List Answer), s.busy = false →
    (s.answers = .fail :: rest →
      ∃ t : State, exec (.rdraw reg) s = .next t ∧ t.trace = s.trace ++ [.sel s.devAddr reg .failed] ∧
        t.records = s.records ++ [errRec .transportError false 1] ∧ SameRegisters s t ∧
        t.busy = false ∧ t.seqOp = .idle ∧ t.answers = rest) ∧
    (∀ (x : List Byte) (bad : Answer),
      (bad = .fail ∨ ∃ bytes, bad = .complete bytes ∧ bytes.length < 2) →
      s.answers = .complete x :: bad :: rest →
      ∃ t : State, exec (.rdraw reg) s = .next t ∧
        t.trace = s.trace ++ [.sel s.devAddr reg .completed, .wait .tSel, .rd s.devAddr reg 2 none] ∧
        t.records = s.records ++ [errRec .transportError false 3] ∧ SameRegisters s t ∧
        t.busy = false ∧ t.seqOp = .idle ∧ t.answers = rest)

/-! ## Calibration -/

/-- ZCAP: the whole next state. Only `ZERO_OFFSET` changes, beside the operand latch and the record. The control position
after the end is the model's choice (log 8). -/
def Obligations.ZcapWritesOnlyTheOffset : Prop :=
  ∀ (s : State) (raw : U16), s.busy = false →
    exec (.zcap raw) s = .next { s with
      zeroOffset := raw, tRaw := raw, busy := false, seqOp := .idle, seqStep := 0, seqSub := 0
      records := s.records ++ [okRec false none none] }

/-- CALLD: the whole next state on both paths. The control position after the end is the model's choice (log 8); the
arithmetic is that of the exact rationals (log 4). -/
def Obligations.CalldFitsTheSensitivity : Prop :=
  ∀ (s : State) (raw : U16) (force : Sys2Proof.Num), s.busy = false →
    (raw ≠ s.zeroOffset →
      exec (.calld raw force) s = .next { s with
        sens := force / (((raw.toNat : Int) - (s.zeroOffset.toNat : Int) : Int) : Rat)
        tRaw := raw, tNum := force, busy := false, seqOp := .idle, seqStep := 0, seqSub := 0
        records := s.records ++ [okRec false none none] }) ∧
    (raw = s.zeroOffset →
      exec (.calld raw force) s = .next { s with
        tRaw := raw, tNum := force, busy := false, seqOp := .idle, seqStep := 0, seqSub := 0
        records := s.records ++ [errRec .degenerateCalibration false 0] })

/-- The degenerate test of R108 is the equality of the two `u16` values: no tolerance, and the force plays no part; one
count of difference is enough. -/
def Obligations.DegenerateTestIsExactEquality : Prop :=
  (∀ (s : State) (raw : U16) (force : Sys2Proof.Num), s.busy = false →
    ∃ (t : State) (c : Completion), exec (.calld raw force) s = .next t ∧ t.records = s.records ++ [c] ∧
      (c.status = .degenerateCalibration ↔ raw = s.zeroOffset) ∧ (c.status = .ok ↔ raw ≠ s.zeroOffset)) ∧
  (∀ s : State, s.busy = false → s.zeroOffset = 1000 →
    ∃ t : State, exec (.calld 1001 50) s = .next t ∧ t.sens = 50 ∧ t.records = s.records ++ [okRec false none none])

/-- FCONV: the whole next state. Nothing persistent changes; the record holds `(raw − ZERO_OFFSET) × SENS`. The control
position after the end is the model's choice (log 8); the arithmetic is that of the exact rationals (log 4). -/
def Obligations.FconvReturnsTheForce : Prop :=
  ∀ (s : State) (raw : U16), s.busy = false →
    exec (.fconv raw) s = .next { s with
      tRaw := raw, busy := false, seqOp := .idle, seqStep := 0, seqSub := 0
      records := s.records ++
        [okRec false none (some ((((raw.toNat : Int) - (s.zeroOffset.toNat : Int) : Int) : Rat) * s.sens))] }

/-- SETCAL: the whole next state. The control position after the end is the model's choice (log 8). -/
def Obligations.SetcalWritesBothConstants : Prop :=
  ∀ (s : State) (z : U16) (k : Sys2Proof.Num), s.busy = false →
    exec (.setcal z k) s = .next { s with
      zeroOffset := z, sens := k, tRaw := z, tNum := k, busy := false, seqOp := .idle, seqStep := 0, seqSub := 0
      records := s.records ++ [okRec false none none] }

/-- After a successful CALLD the calibration point is reproduced exactly (with the exact rationals, log 4), and the zero
offset converts to 0. -/
def Obligations.CalibrationPointIsReproduced : Prop :=
  ∀ (s : State) (raw : U16) (force : Sys2Proof.Num), s.busy = false → raw ≠ s.zeroOffset →
    ∃ t u v : State, exec (.calld raw force) s = .next t ∧ exec (.fconv raw) t = .next u ∧
      u.records = s.records ++ [okRec false none none, okRec false none (some force)] ∧
      exec (.fconv s.zeroOffset) t = .next v ∧
      v.records = s.records ++ [okRec false none none, okRec false none (some 0)]

/-- Force conversion is affine with slope `SENS`: one count more of raw reading adds exactly `SENS`, with the
exact rationals (log 4). -/
def Obligations.ForceSlopeIsTheSensitivity : Prop :=
  ∀ (s : State) (raw : U16), s.busy = false → raw.toNat < 65535 →
    ∃ (t u : State) (f g : Sys2Proof.Num), exec (.fconv raw) s = .next t ∧ exec (.fconv (raw + 1)) s = .next u ∧
      t.records = s.records ++ [okRec false none (some f)] ∧
      u.records = s.records ++ [okRec false none (some g)] ∧ g - f = s.sens

/-! ## Address change -/

/-- CHADDR on a transport that completes all nine calls: the whole next state. The trace is the seventeen events of R132
whatever the ack byte is, the record is OK with `WARN_ACK` exactly when the ack byte is not 0x5A, `PWR` ends at 1, and
`DEV_ADDR` and the calibration are not touched. The control position and the transient registers after the end are the
model's choice (log 8), and so is that surplus bytes of an answer are ignored, those of a longer fetch reply among them
(log 14). -/
def Obligations.ChaddrIssuesTheSeventeenEvents : Prop :=
  ∀ (s : State) (a : U7) (f0 f1 f2 : Byte) (x1 x2 x3 x4 x6 x7 x8 x9 more : List Byte) (rest : List Answer),
    s.busy = false →
    s.answers = .complete x1 :: .complete x2 :: .complete x3 :: .complete x4 ::
      .complete (f0 :: f1 :: f2 :: more) ::
      .complete x6 :: .complete x7 :: .complete x8 :: .complete x9 :: rest →
    exec (.chaddr a) s = .next { s with
      pwr := 1, tOld := s.devAddr, tNew := a, f0 := f0, f1 := f1, f2 := f2
      word := f0 ++ f2
      newWord := f0.extractLsb' 7 1 ++ 0b00011#5 ++ a ++ f2.extractLsb' 0 3
      wAck := f0 != 0x5A
      busy := false, seqOp := .idle, seqStep := 0, seqSub := 0, answers := rest
      trace := s.trace ++ changeTrace s.devAddr a f0 f1 f2
      records := s.records ++ [okRec (f0 != 0x5A) none none] }

/-- The nine failure points of R140. With `k` calls completed and the next one failing (or, for the fetch, delivering
fewer than three bytes), the trace is the success trace up to that event, marked `FAILED` and last; the record is
ProtocolAborted with the step and with the warning if the fetch had raised it; `PWR` is as the table says; nothing is
rolled back. `FAIL_STEP`, `WARN_ACK` beside an abort and silence after the failed event are the spec's decisions D9, D11
and D10. That surplus bytes of an answer are ignored is the model's choice (log 14). -/
def Obligations.ChaddrNineFailurePoints : Prop :=
  ∀ (s : State) (a : U7) (k : Nat) (ok rest : List Answer) (bad : Answer) (f0 f1 f2 : Byte),
    s.busy = false → k < 9 → ok.length = k →
    (∀ x ∈ ok, ∃ bytes, x = .complete bytes) →
    (4 < k → ∃ more, ok[4]? = some (.complete (f0 :: f1 :: f2 :: more))) →
    (bad = .fail ∨ (k = 4 ∧ ∃ bytes, bad = .complete bytes ∧ bytes.length < 3)) →
    s.answers = ok ++ bad :: rest →
    ∃ t : State, exec (.chaddr a) s = .next t ∧
      t.trace = s.trace ++ (changeTrace s.devAddr a f0 f1 f2).take (failIndex k) ++
        ((changeTrace s.devAddr a f0 f1 f2)[failIndex k]?.map markFailed).toList ∧
      t.records = s.records ++ [errRec .protocolAborted (decide (4 < k) && f0 != 0x5A) (failStepOf k)] ∧
      t.pwr = (if k = 0 then s.pwr else if k = 1 ∨ k = 8 then 0 else 1) ∧
      t.devAddr = s.devAddr ∧ t.zeroOffset = s.zeroOffset ∧ t.sens = s.sens ∧
      t.busy = false ∧ t.seqOp = .idle ∧
      t.answers = rest ∧ t.commands = s.commands ∧ t.samples = s.samples

/-- The middle byte of the fetch reply influences nothing: two runs of CHADDR that differ in it alone, with any answers
before and after, end with the same registers and records and with traces that differ in that byte alone. That
surplus bytes of an answer are ignored is the model's choice (log 14). -/
def Obligations.MiddleReplyByteInfluencesNothing : Prop :=
  ∀ (s : State) (a : U7) (before rest : List Answer) (f0 f1 g1 f2 : Byte) (more : List Byte),
    s.busy = false → before.length = 4 →
    ∃ t u : State,
      exec (.chaddr a) { s with answers := before ++ .complete (f0 :: f1 :: f2 :: more) :: rest } = .next t ∧
      exec (.chaddr a) { s with answers := before ++ .complete (f0 :: g1 :: f2 :: more) :: rest } = .next u ∧
      SameRegisters t u ∧ t.records = u.records ∧ t.busy = u.busy ∧
      t.seqOp = u.seqOp ∧ t.seqStep = u.seqStep ∧ t.seqSub = u.seqSub ∧
      t.word = u.word ∧ t.newWord = u.newWord ∧
      t.trace.map hideMiddle = u.trace.map hideMiddle

/-- CHADDR neither writes nor reads the calibration: on every path, and whatever the transport answers, the two registers
stay as they are and a run with any other two values differs in nothing else. -/
def Obligations.ChaddrLeavesTheCalibrationAlone : Prop :=
  ∀ (s t : State) (a : U7) (z : U16) (k : Sys2Proof.Num), exec (.chaddr a) s = .next t →
    t.zeroOffset = s.zeroOffset ∧ t.sens = s.sens ∧
    exec (.chaddr a) { s with zeroOffset := z, sens := k } = .next { t with zeroOffset := z, sens := k }

/-- The patch step (R123), whatever state it is met in: one step with no event and no failure that writes `NEW_WORD` by
the formula; the shifted address fits, and the corrected worked example holds. -/
def Obligations.PatchStepWritesTheFormula : Prop :=
  (∀ s : State, s.busy = true → s.seqOp = .chaddr → s.seqStep = 5 → s.seqSub = 0 →
    step s = .next { s with
      newWord := (s.word &&& 0x8007) ||| (s.tNew.setWidth 16 <<< 3) ||| (0b011#16 <<< 10), seqStep := 6 }) ∧
  (∀ a : U7, a.toNat * 8 ≤ 0x03F8) ∧
  patchWord 0x1234 0x2A = 0x0D54

/-- The write of step 6 carries the high byte of `NEW_WORD` and then its low byte (R72). -/
def Obligations.WritePayloadIsHighThenLow : Prop :=
  ∀ s : State, s.seqOp = .chaddr → s.seqStep = 6 → s.seqSub = 0 →
    s.nextFrame = some (.busWriteWord2 (s.newWord.extractLsb' 8 8) (s.newWord.extractLsb' 0 8))

/-! ## Composition -/

/-- RDFORCE on a transport that completes both calls: the whole next state. The reading is of register 0x06 and the record
holds the force. The latches used (log 9), the control position after the end (log 8) and that surplus bytes of an
answer are ignored (log 14) are the model's choice; the arithmetic is that of the exact rationals (log 4). -/
def Obligations.RdforceReturnsTheForce : Prop :=
  ∀ (s : State) (b0 b1 : Byte) (x more : List Byte) (rest : List Answer),
    s.busy = false →
    s.answers = .complete x :: .complete (b0 :: b1 :: more) :: rest →
    exec .rdforce s = .next { s with
      tReg := 0x06, b0 := b0, b1 := b1, tRaw := b0 ++ b1
      busy := false, seqOp := .idle, seqStep := 0, seqSub := 0, answers := rest
      trace := s.trace ++ [.sel s.devAddr 0x06 .completed, .wait .tSel, .rd s.devAddr 0x06 2 (some [b0, b1])]
      records := s.records ++ [okRec false none
        (some (((((b0 ++ b1 : U16).toNat : Int) - (s.zeroOffset.toNat : Int) : Int) : Rat) * s.sens))] }

/-- "No reading" is not "zero force" (R143): a reading equal to `ZERO_OFFSET` completes OK with force 0; a failed read
completes with TransportError and no force, and is not tried again: exactly one more call stands in the trace. -/
def Obligations.NoReadingIsNotZeroForce : Prop :=
  (∀ (s : State) (b0 b1 : Byte) (x : List Byte) (rest : List Answer), s.busy = false →
    s.answers = .complete x :: .complete [b0, b1] :: rest → (b0 ++ b1 : U16) = s.zeroOffset →
    ∃ t : State, exec .rdforce s = .next t ∧ t.records = s.records ++ [okRec false none (some 0)]) ∧
  (∀ (s : State) (rest : List Answer), s.busy = false → s.answers = .fail :: rest →
    ∃ (t : State) (c : Completion), exec .rdforce s = .next t ∧ t.records = s.records ++ [c] ∧ c.status = .transportError ∧
      c.resNum = none ∧ t.trace = s.trace ++ [.sel s.devAddr 0x06 .failed] ∧ t.answers = rest) ∧
  (∀ (s : State) (x : List Byte) (bad : Answer) (rest : List Answer), s.busy = false →
    (bad = .fail ∨ ∃ bytes, bad = .complete bytes ∧ bytes.length < 2) → s.answers = .complete x :: bad :: rest →
    ∃ (t : State) (c : Completion), exec .rdforce s = .next t ∧ t.records = s.records ++ [c] ∧ c.status = .transportError ∧
      c.resNum = none ∧ t.answers = rest ∧
      t.trace = s.trace ++ [.sel s.devAddr 0x06 .completed, .wait .tSel, .rd s.devAddr 0x06 2 none])

/-- RDFORCE is RDRAW 0x06 followed, when that is OK, by FCONV of its reading: the same trace, answers used and registers
on every path, and the record of the conversion, or RDRAW's own record when RDRAW fails. -/
def Obligations.RdforceIsRdrawThenFconv : Prop :=
  ∀ s : State, s.busy = false →
    ∃ t u : State, exec .rdforce s = .next t ∧ exec (.rdraw 0x06) s = .next u ∧
      t.trace = u.trace ∧ t.answers = u.answers ∧ SameRegisters t u ∧ t.busy = u.busy ∧
      ((u.busy = true ∧ u.records = s.records ∧ t.records = s.records) ∨
       (∃ (raw : U16) (v : State) (d : Completion), u.records = s.records ++ [okRec false (some raw) none] ∧
          exec (.fconv raw) u = .next v ∧ v.records = u.records ++ [d] ∧ t.records = s.records ++ [d]) ∨
       (∃ c : Completion, c.status = .transportError ∧ u.records = s.records ++ [c] ∧ t.records = s.records ++ [c]))

/-- CALIB with two samples of different raw values: the whole next state. The order of the samples is the spec's decision
D24; the control position after the end is the model's choice (log 8); the arithmetic is that of the exact rationals
(log 4). -/
def Obligations.CalibFitsFromTwoSamples : Prop :=
  ∀ (s : State) (x y : Sample) (rest : List Sample), s.busy = false → s.samples = x :: y :: rest → y.raw ≠ x.raw →
    exec .calib s = .next { s with
      zeroOffset := x.raw
      sens := y.num / (((y.raw.toNat : Int) - (x.raw.toNat : Int) : Int) : Rat)
      tRaw := y.raw, tNum := y.num, samples := rest
      busy := false, seqOp := .idle, seqStep := 0, seqSub := 0
      records := s.records ++ [okRec false none none] }

/-- CALIB with two samples of equal raw values (R146): the record says DegenerateCalibration, `ZERO_OFFSET` is the new
sample, `SENS` keeps its value. -/
def Obligations.DegenerateCalibKeepsTheNewOffset : Prop :=
  ∀ (s : State) (x y : Sample) (rest : List Sample), s.busy = false → s.samples = x :: y :: rest → y.raw = x.raw →
    ∃ t : State, exec .calib s = .next t ∧ t.records = s.records ++ [errRec .degenerateCalibration false 0] ∧
      t.zeroOffset = x.raw ∧ t.sens = s.sens ∧ t.trace = s.trace ∧ t.busy = false

/-- CALIB is ZCAP of the first sample followed by CALLD of the second: the same registers, the same trace and the same
last record. -/
def Obligations.CalibIsZcapThenCalld : Prop :=
  ∀ (s : State) (x y : Sample) (rest : List Sample), s.busy = false → s.samples = x :: y :: rest →
    ∃ (t u v : State) (c : Completion), exec .calib s = .next t ∧ exec (.zcap x.raw) s = .next u ∧ exec (.calld y.raw y.num) u = .next v ∧
      SameRegisters t v ∧ t.trace = v.trace ∧
      t.records = s.records ++ [c] ∧ v.records = u.records ++ [c]

/-- CALIB asks for its samples and holds until they come (R145; the capture port is the spec's decision D19): with none
it waits at step 1 asking for kind 0; with one it waits at step 3 asking for kind 1, `ZERO_OFFSET` already written. -/
def Obligations.CalibHoldsForItsSamples : Prop :=
  ∀ s : State, s.busy = false →
    (s.samples = [] →
      ∃ t : State, exec .calib s = .next t ∧ t.busy = true ∧ t.capReq = true ∧ t.capKind = some 0 ∧
        t.records = s.records ∧ SameRegisters s t ∧ step t = .next t) ∧
    (∀ x, s.samples = [x] →
      ∃ t : State, exec .calib s = .next t ∧ t.busy = true ∧ t.capReq = true ∧ t.capKind = some 1 ∧
        t.records = s.records ∧ t.zeroOffset = x.raw ∧ t.sens = s.sens ∧ step t = .next t)

/-! ## Reserved headers, and commands while busy -/

/-- Every reserved row completes with a record of STATUS = IllegalCommand and changes nothing else (R81; the encoding and
the code are the spec's decisions D2, D15; log 11). -/
def Obligations.ReservedRowsReportIllegalCommand : Prop :=
  ∀ (s : State) (b : BitVec 1) (x : BitVec 2) (hi3 : BitVec 3) (hi2 : BitVec 2) (hi1 : BitVec 1) (lo : BitVec 4),
    s.busy = false →
    exec .reserved00 s = .next { s with records := s.records ++ [errRec .illegalCommand false 0] } ∧
    exec .reserved09 s = .next { s with records := s.records ++ [errRec .illegalCommand false 0] } ∧
    exec (.reserved0A0B b) s = .next { s with records := s.records ++ [errRec .illegalCommand false 0] } ∧
    exec (.reserved0C0F x) s = .next { s with records := s.records ++ [errRec .illegalCommand false 0] } ∧
    exec (.reservedBit4 hi3 lo) s = .next { s with records := s.records ++ [errRec .illegalCommand false 0] } ∧
    exec (.reservedBit5 hi2 lo) s = .next { s with records := s.records ++ [errRec .illegalCommand false 0] } ∧
    exec (.reservedBit6 hi1 lo) s = .next { s with records := s.records ++ [errRec .illegalCommand false 0] } ∧
    exec (.reservedBit7 lo) s = .next { s with records := s.records ++ [errRec .illegalCommand false 0] }

/-- While BUSY is 1 no command changes anything and a step takes none off the port (R21, R78: CMD_READY = NOT BUSY, the
spec's decision D16; that the state is unchanged is log 18). -/
def Obligations.BusyBlockAcceptsNoCommand : Prop :=
  ∀ s : State, s.busy = true →
    (∀ c : HostCmd, exec (decodeHost c) s = .next s) ∧
    (∀ t, step s = .next t → t.commands = s.commands)

/-! ## Bus rows -/

/-- SEL_FORCE and RD_FORCE at their steps of RDRAW or RDFORCE, answered: the whole next state (R91, R93). That surplus
bytes of an answer are ignored is the model's choice (log 14). -/
def Obligations.RawReadFramesAdvance : Prop :=
  ∀ (s : State) (reg : Byte) (rest : List Answer), (s.seqOp = .rdraw ∨ s.seqOp = .rdforce) → s.seqSub = 0 →
    (∀ x, s.seqStep = 1 → s.answers = .complete x :: rest →
      exec (.busSelForce reg) s = .next { s with
        answers := rest, seqStep := 2, trace := s.trace ++ [.sel s.devAddr reg .completed] }) ∧
    (∀ (b0 b1 : Byte) (more : List Byte), s.seqStep = 3 → s.answers = .complete (b0 :: b1 :: more) :: rest →
      exec (.busRdForce reg) s = .next { s with
        answers := rest, seqStep := 4, b0 := b0, b1 := b1
        trace := s.trace ++ [.rd s.devAddr reg 2 (some [b0, b1])] })

/-- The four command writes at their steps of CHADDR, answered: the whole next state; each is addressed to `T_OLD` and is
followed by its wait, at sub-position 1 (R119, R120, R124, R125; sub-positions are the spec's decision D1). That bytes beside the answer are
ignored is the model's choice (log 14). -/
def Obligations.CommandFramesAdvance : Prop :=
  ∀ (s : State) (x : List Byte) (rest : List Answer) (h l : Byte),
    s.seqOp = .chaddr → s.seqSub = 0 → s.answers = .complete x :: rest →
    (s.seqStep = 2 → exec .busEnterCm s = .next { s with
      answers := rest, seqSub := 1, trace := s.trace ++ [.wr s.tOld 0xA0 0x00 0x00 .completed] }) ∧
    (s.seqStep = 3 → exec .busReqWord2 s = .next { s with
      answers := rest, seqSub := 1, trace := s.trace ++ [.wr s.tOld 0x02 0x00 0x00 .completed] }) ∧
    (s.seqStep = 6 → exec (.busWriteWord2 h l) s = .next { s with
      answers := rest, seqSub := 1, trace := s.trace ++ [.wr s.tOld 0x42 h l .completed] }) ∧
    (s.seqStep = 7 → exec .busExitCm s = .next { s with
      answers := rest, seqSub := 1, trace := s.trace ++ [.wr s.tOld 0x80 0x00 0x00 .completed] })

/-- FETCH_WORD at step 4 of CHADDR, answered: the whole next state. `WORD` is the first byte over the third; a wrong ack
byte sets `W_ACK` and does not change the advance (R121, R122). That surplus bytes of a longer reply are ignored is
the model's choice (log 14). -/
def Obligations.FetchFrameLatchesTheReply : Prop :=
  ∀ (s : State) (f0 f1 f2 : Byte) (more : List Byte) (rest : List Answer),
    s.seqOp = .chaddr → s.seqStep = 4 → s.seqSub = 0 → s.answers = .complete (f0 :: f1 :: f2 :: more) :: rest →
    exec .busFetchWord s = .next { s with
      answers := rest, seqStep := 5, f0 := f0, f1 := f1, f2 := f2, word := f0 ++ f2
      wAck := s.wAck || f0 != 0x5A
      trace := s.trace ++ [.rd s.tOld 0x00 3 (some [f0, f1, f2])] }

/-- PIN in either power cycle of CHADDR, answered: `PWR` takes the level and the wait comes next (R118, R126).
That bytes beside the answer are ignored is the model's choice (log 14). -/
def Obligations.PinFrameDrivesTheLine : Prop :=
  ∀ (s : State) (v : BitVec 1) (x : List Byte) (rest : List Answer),
    s.seqOp = .chaddr → (s.seqStep = 1 ∨ s.seqStep = 8) → (s.seqSub = 0 ∨ s.seqSub = 2) →
    s.answers = .complete x :: rest →
    exec (.busPin v) s = .next { s with
      pwr := v, answers := rest, seqSub := s.seqSub + 1, trace := s.trace ++ [.pin v .completed] }

/-- A bus row that the transport fails, or a read that delivers too few bytes, ends the running operation at once: the
whole next state. The trace gains that
row's one event, marked `FAILED`; the record has the step in progress and the status of the operation's kind; no register
changes, `PWR` included (R153, R156, R158 to R161). The position after the end is the model's choice (log 8). -/
def Obligations.FailedFrameEndsTheOperation : Prop :=
  ∀ (s : State) (i : Instr) (bad : Answer) (rest : List Answer), s.seqOp ≠ .idle → s.nextFrame = some i →
    (bad = .fail ∨ ∃ bytes, bad = .complete bytes ∧
      ((i = .busFetchWord ∧ bytes.length < 3) ∨ ((∃ reg, i = .busRdForce reg) ∧ bytes.length < 2))) →
    s.answers = bad :: rest →
    exec i s = .next { s with
      answers := rest, busy := false, seqOp := .idle, seqStep := 0, seqSub := 0
      trace := s.trace ++ failedEvents s i
      records := s.records ++
        [errRec (if s.seqOp = .chaddr then .protocolAborted else .transportError)
          (decide (s.seqOp = .chaddr) && s.wAck) s.seqStep] }

/-- A call the transport has not answered holds the block: it stays BUSY in its step, for ever if no answer comes (R170,
U6; how an absent answer is represented is log 2). -/
def Obligations.UnansweredCallHoldsTheBlock : Prop :=
  ∀ (s : State) (i : Instr) (n : Nat), s.busy = true → s.nextFrame = some i → s.answers = [] →
    Reaches n s s

/-! ## The machine -/

/-- A step runs the decoded instruction: idle, the command on the port, taken off it; busy, the row at the control
position. Where no row is next, a busy step is the micro-step there and an idle step changes nothing. -/
def Obligations.StepRunsTheDecodedInstruction : Prop :=
  (∀ (s : State) (c : HostCmd) (cs : List HostCmd) (i : Instr), s.busy = false → s.commands = c :: cs →
    decode (.host c) = .ok i → i.wellFormed = true → step s = exec i { s with commands := cs }) ∧
  (∀ (s : State) (i : Instr), s.busy = true → s.nextFrame = some i → step s = exec i s) ∧
  (∀ s : State, s.busy = true → s.nextFrame = none → step s = .next (runMicro s.micro s)) ∧
  (∀ s : State, s.busy = false → s.commands = [] → step s = .next s)

/-- A wait never fails: the whole next state of a step at a wait. Its event is appended; inside a power cycle the rising
edge comes next, at every other wait the next step, and after the last wait of CHADDR the operation completes (R23, R48,
R126, R173; sub-positions are the spec's decision D1, the position after the end is log 8). -/
def Obligations.WaitStepAlwaysCompletes : Prop :=
  ∀ (s : State) (d : Delay), s.busy = true → s.micro = .wait d →
    (¬ (s.seqStep = 8 ∧ s.seqSub = 3) →
      step s = .next { s with
        trace := s.trace ++ [.wait d]
        seqStep := if s.seqOp = .chaddr ∧ (s.seqStep = 1 ∨ s.seqStep = 8) ∧ s.seqSub = 1 then s.seqStep else s.seqStep + 1
        seqSub := if s.seqOp = .chaddr ∧ (s.seqStep = 1 ∨ s.seqStep = 8) ∧ s.seqSub = 1 then 2 else 0 }) ∧
    (s.seqStep = 8 ∧ s.seqSub = 3 →
      step s = .next { s with
        trace := s.trace ++ [.wait d], records := s.records ++ [okRec s.wAck none none]
        busy := false, seqOp := .idle, seqStep := 0, seqSub := 0 })

/-- Every step answers a next state: the block has no fault (R178). The second clause, over every row in every state, is
the model's choice where the spec is silent: a reserved header is executed where R178 allows a refusal (log 11), a bus row
at a position that is not its own still makes its call (log 12), and a header's row on a busy state changes nothing
(log 18). -/
def Obligations.EveryStepAnswersNext : Prop :=
  (∀ s : State, ∃ t : State, step s = .next t) ∧ (∀ (i : Instr) (s : State), ∃ t : State, exec i s = .next t)

/-- The state after construction at an address (R34): the calibration is the identity, the block is idle, nothing has
been issued and no record is pending, and it stays so while the host presents no command (R181). `PWR = 1` is the
spec's decision D12 (log 6). -/
def Obligations.ResetStateIsIdle : Prop :=
  ∀ a : U7, (State.construct a).devAddr = a ∧ (State.construct a).zeroOffset = 0 ∧ (State.construct a).sens = 1 ∧
    (State.construct a).pwr = 1 ∧ (State.construct a).busy = false ∧ (State.construct a).seqOp = .idle ∧
    (State.construct a).seqStep = 0 ∧ (State.construct a).seqSub = 0 ∧
    (State.construct a).trace = [] ∧ (State.construct a).records = [] ∧
    (∀ n, Reaches n (State.construct a) (State.construct a)) ∧ State.reset = State.construct deviceAddress

/-- With the reset calibration the force is the raw reading (R19), with the exact rationals (log 4). -/
def Obligations.ResetCalibrationIsTheIdentity : Prop :=
  ∀ (a : U7) (raw : U16), ∃ t : State, exec (.fconv raw) (State.construct a) = .next t ∧
    t.records = [okRec false none (some (raw.toNat : Rat))]

/-- The invariant of the sequencer, the legality of the records and of the trace hold at reset. -/
def Obligations.InvariantsHoldAtReset : Prop :=
  SeqInv State.reset ∧ RecordsLegal State.reset ∧ TraceLegal State.reset

/-- Every step keeps the invariant of the sequencer. Its conjuncts on RDFORCE's latches `T_REG` and `T_RAW` are the model's
inference (log 9), the control position of Idle is log 8, and sub-positions are the spec's decision D1. -/
def Obligations.EveryStepKeepsTheSequencerInvariant : Prop :=
  ∀ s t : State, SeqInv s → step s = .next t → SeqInv t

/-- Every step keeps the records legal: no run delivers a status, step, warning and result that do not go together. -/
def Obligations.EveryStepKeepsTheRecordsLegal : Prop :=
  ∀ s t : State, SeqInv s → RecordsLegal s → step s = .next t → RecordsLegal t

/-- Every step keeps the trace legal: every frame goes to the handle's own device, has one of the shapes of R53 and R68,
and every word written has the shape of R135. -/
def Obligations.EveryStepKeepsTheTraceLegal : Prop :=
  ∀ s t : State, SeqInv s → TraceLegal s → step s = .next t → TraceLegal t

/-- In every run of any length the device address stays as it was constructed, and the trace and the records only grow. -/
def Obligations.RunsKeepTheAddressAndTheLogs : Prop :=
  ∀ (n : Nat) (s t : State), Reaches n s t →
    t.devAddr = s.devAddr ∧ s.trace <+: t.trace ∧ s.records <+: t.records

/-- The access matrix of R32: which persistent registers an operation leaves alone, on every path and whatever the
transport and the capture source answer. -/
def Obligations.OperationsFollowTheAccessMatrix : Prop :=
  ∀ s t : State,
    (∀ reg, exec (.rdraw reg) s = .next t → SameRegisters s t) ∧
    (∀ raw, exec (.zcap raw) s = .next t → t.devAddr = s.devAddr ∧ t.sens = s.sens ∧ t.pwr = s.pwr) ∧
    (∀ raw f, exec (.calld raw f) s = .next t →
      t.devAddr = s.devAddr ∧ t.zeroOffset = s.zeroOffset ∧ t.pwr = s.pwr) ∧
    (∀ raw, exec (.fconv raw) s = .next t → SameRegisters s t) ∧
    (∀ z k, exec (.setcal z k) s = .next t → t.devAddr = s.devAddr ∧ t.pwr = s.pwr) ∧
    (∀ a, exec (.chaddr a) s = .next t →
      t.devAddr = s.devAddr ∧ t.zeroOffset = s.zeroOffset ∧ t.sens = s.sens) ∧
    (exec .rdforce s = .next t → SameRegisters s t) ∧
    (exec .calib s = .next t → t.devAddr = s.devAddr ∧ t.pwr = s.pwr)

/-- `PWR` moves only while CHADDR runs or in the step that accepts it (R20, R32). -/
def Obligations.PwrMovesOnlyInChaddr : Prop :=
  ∀ s t : State, SeqInv s → step s = .next t → t.pwr ≠ s.pwr →
    s.seqOp = .chaddr ∨ (s.busy = false ∧ ∃ c cs a, s.commands = c :: cs ∧ decodeHost c = .chaddr a)

/-- Running any of the eight operations as one instruction is the same as taking its micro-steps one step at a time from
the accepted state, when the host presents nothing more meanwhile. The granularity is the model's choice (log 1), and so is
the latch of RDFORCE's register (log 9). -/
def Obligations.OperationIsItsMicroSteps : Prop :=
  ∀ s t : State, s.busy = false → s.commands = [] →
    (∀ reg, exec (.rdraw reg) s = .next t → Reaches 4 ({ s with tReg := reg }.start .rdraw) t) ∧
    (∀ raw, exec (.zcap raw) s = .next t → Reaches 1 ({ s with tRaw := raw }.start .zcap) t) ∧
    (∀ raw f, exec (.calld raw f) s = .next t → Reaches 1 ({ s with tRaw := raw, tNum := f }.start .calld) t) ∧
    (∀ raw, exec (.fconv raw) s = .next t → Reaches 1 ({ s with tRaw := raw }.start .fconv) t) ∧
    (∀ z k, exec (.setcal z k) s = .next t → Reaches 1 ({ s with tRaw := z, tNum := k }.start .setcal) t) ∧
    (∀ a, exec (.chaddr a) s = .next t →
      Reaches 18 ({ s with tOld := s.devAddr, tNew := a, wAck := false }.start .chaddr) t) ∧
    (exec .rdforce s = .next t → Reaches 5 ({ s with tReg := 0x06 }.start .rdforce) t) ∧
    (exec .calib s = .next t → Reaches 4 (s.start .calib) t)

/-- With as many answers or samples as it asks for, each of the eight operations comes to an end: the block is idle again
with exactly one record more. ZCAP, CALLD, FCONV and SETCAL ask for none. -/
def Obligations.EveryOperationTerminates : Prop :=
  ∀ s : State, s.busy = false →
    (∀ reg, 2 ≤ s.answers.length → EndsWithOneRecord (.rdraw reg) s) ∧
    (∀ raw, EndsWithOneRecord (.zcap raw) s) ∧
    (∀ raw force, EndsWithOneRecord (.calld raw force) s) ∧
    (∀ raw, EndsWithOneRecord (.fconv raw) s) ∧
    (∀ z k, EndsWithOneRecord (.setcal z k) s) ∧
    (∀ a, 9 ≤ s.answers.length → EndsWithOneRecord (.chaddr a) s) ∧
    (2 ≤ s.answers.length → EndsWithOneRecord .rdforce s) ∧
    (2 ≤ s.samples.length → EndsWithOneRecord .calib s)

/-- The waits the block owes the device (R187 to R189, and R118 for the rising edge): in what RDRAW, RDFORCE and CHADDR add to the trace, on every path,
each completed select, command write and pin write is followed at once by its wait. -/
def Obligations.EveryCallIsFollowedByItsWait : Prop :=
  ∀ s t : State, s.busy = false →
    ((∃ reg, exec (.rdraw reg) s = .next t) ∨ exec .rdforce s = .next t ∨ (∃ a, exec (.chaddr a) s = .next t)) →
    ∃ new : List Event, t.trace = s.trace ++ new ∧ WaitsKept new

/-- The least durations by the waits (R200), of what each operation adds to the trace. A completed address change waits at
least 240 ms and twice the settle time, which is between 240 ms and 252 ms; a completed raw read and a completed force
reading at least 10 ms; the other operations make no wait on any path. The settle time lies strictly between 0 and the
entry window, nominally 6 ms (R10). The durations are the nominal defaults (93_implementation_defined.md U9; log 15). -/
def Obligations.MinimumDurations : Prop :=
  (∀ (s t : State) (a : U7) (c : Completion), s.busy = false → exec (.chaddr a) s = .next t →
    t.records = s.records ++ [c] → c.status = .ok → AddsWaits s t (240000 + 2 * tSettleMicros)) ∧
  (240000 < 240000 + 2 * tSettleMicros ∧ 240000 + 2 * tSettleMicros < 252000) ∧
  (∀ (s t : State) (reg : Byte) (c : Completion), s.busy = false → exec (.rdraw reg) s = .next t →
    t.records = s.records ++ [c] → c.status = .ok → AddsWaits s t 10000) ∧
  (∀ (s t : State) (c : Completion), s.busy = false → exec .rdforce s = .next t →
    t.records = s.records ++ [c] → c.status = .ok → AddsWaits s t 10000) ∧
  (∀ s t : State, s.busy = false →
    ((∃ raw, exec (.zcap raw) s = .next t) ∨ (∃ raw force, exec (.calld raw force) s = .next t) ∨
      (∃ raw, exec (.fconv raw) s = .next t) ∨ (∃ z k, exec (.setcal z k) s = .next t) ∨ exec .calib s = .next t) →
    AddsWaits s t 0) ∧
  0 < tSettleMicros ∧ tSettleMicros < tWindowMicros ∧ tWindowMicros = 6000

/-- The arithmetic of R105 in the operations of the block's configured number format: `SENS` starts as its 1, a force is its
product of the value of the difference with the sensitivity, and a fitted sensitivity the quotient of the known force by
that value. It speaks of the configured format alone, by default the exact rationals (log 4), and of no other format. -/
def Obligations.ArithmeticIsTheConfiguredFormat : Prop :=
  (∀ a : U7, (State.construct a).sens = block.numFormat.one) ∧
  (∀ (s : State) (raw : U16), s.busy = false →
    ∃ t : State, exec (.fconv raw) s = .next t ∧ t.records = s.records ++ [okRec false none
      (some (block.numFormat.mul (block.numFormat.toNum ((raw.toNat : Int) - (s.zeroOffset.toNat : Int))) s.sens))]) ∧
  (∀ (s : State) (raw : U16) (force : Sys2Proof.Num), s.busy = false → raw ≠ s.zeroOffset →
    ∃ t : State, exec (.calld raw force) s = .next t ∧
      t.sens = block.numFormat.div force (block.numFormat.toNum ((raw.toNat : Int) - (s.zeroOffset.toNat : Int))))
end

