-- ==== Sys2Proof/Laws/Config.lean ====
section
/-! SUPPORT. What the default configuration makes of the number operations: those of the exact rationals (R11, R105). -/

namespace Sys2Proof.Config

@[simp] theorem toNum_eq_cast (i : Int) : toNum i = (i : Rat) := rfl

@[simp] theorem numMul_eq_mul (a b : Num) : numMul a b = (a * b : Rat) := rfl

@[simp] theorem numDiv_eq_div (a b : Num) : numDiv a b = (a / b : Rat) := rfl

@[simp] theorem numOne_eq_one : numOne = (1 : Rat) := rfl

end Sys2Proof.Config
end

