-- ==== Sys2Proof/Laws/PerInstr.lean ====
section
/-! SUPPORT. The statement made per instruction: the words an instruction is written in fit the fixed bits of its row in
spec/opcode_table.json. -/

namespace Sys2Proof.Laws.RowFits

open Sys2Proof

/-- The fixed bits of a row of the table. -/
inductive Row
  /-- a host header: the bits of `mask` are those of `pattern` -/
  | host (mask pattern : Byte)
  /-- a one-byte register select -/
  | sel
  /-- a read of `n` bytes -/
  | rd (n : Nat)
  /-- a 3-byte command write, byte 0 in bits [23:16] -/
  | wr3 (mask pattern : BitVec 24)
  /-- a level of the power-control line -/
  | pin

/-- Words that fit a row. -/
def Row.fits : Row → Code → Prop
  | .host mask pattern, .host c => c.hdr &&& mask = pattern
  | .sel, .bus (.sel _) => True
  | .rd n, .bus (.rd _ m) => m = n
  | .wr3 mask pattern, .bus (.wr3 cmd p0 p1) => (cmd ++ p0 ++ p1) &&& mask = pattern
  | .pin, .bus (.pin _) => True
  | _, _ => False

/-- The row of spec/opcode_table.json each constructor stands for. -/
def rowOf : Instr → Row
  | .rdraw _ => .host 0xFF 0x01
  | .zcap _ => .host 0xFF 0x02
  | .calld _ _ => .host 0xFF 0x03
  | .fconv _ => .host 0xFF 0x04
  | .setcal _ _ => .host 0xFF 0x05
  | .chaddr _ => .host 0xFF 0x06
  | .rdforce => .host 0xFF 0x07
  | .calib => .host 0xFF 0x08
  | .reserved00 => .host 0xFF 0x00
  | .reserved09 => .host 0xFF 0x09
  | .reserved0A0B _ => .host 0xFE 0x0A
  | .reserved0C0F _ => .host 0xFC 0x0C
  | .reservedBit4 _ _ => .host 0x10 0x10
  | .reservedBit5 _ _ => .host 0x20 0x20
  | .reservedBit6 _ _ => .host 0x40 0x40
  | .reservedBit7 _ => .host 0x80 0x80
  | .busSelForce _ => .sel
  | .busRdForce _ => .rd 2
  | .busEnterCm => .wr3 0xFFFFFF 0xA00000
  | .busReqWord2 => .wr3 0xFFFFFF 0x020000
  | .busFetchWord => .rd 3
  | .busWriteWord2 _ _ => .wr3 0xFF0000 0x420000
  | .busExitCm => .wr3 0xFFFFFF 0x800000
  | .busPin _ => .pin

/-- The words of an instruction fit its row of the table. -/
def Statement (i : Instr) : Prop := (rowOf i).fits (encode i)

theorem rdraw (reg : Byte) : Statement (.rdraw reg) := by show 0x01#8 &&& 0xFF#8 = 0x01#8; decide
theorem zcap (raw : U16) : Statement (.zcap raw) := by show 0x02#8 &&& 0xFF#8 = 0x02#8; decide
theorem calld (raw : U16) (force : Sys2Proof.Num) : Statement (.calld raw force) := by show 0x03#8 &&& 0xFF#8 = 0x03#8; decide
theorem fconv (raw : U16) : Statement (.fconv raw) := by show 0x04#8 &&& 0xFF#8 = 0x04#8; decide
theorem setcal (z : U16) (k : Sys2Proof.Num) : Statement (.setcal z k) := by show 0x05#8 &&& 0xFF#8 = 0x05#8; decide
theorem chaddr (a : U7) : Statement (.chaddr a) := by show 0x06#8 &&& 0xFF#8 = 0x06#8; decide
theorem rdforce : Statement .rdforce := by show _ = _; decide
theorem calib : Statement .calib := by show _ = _; decide
theorem reserved00 : Statement .reserved00 := by show _ = _; decide
theorem reserved09 : Statement .reserved09 := by show _ = _; decide
theorem reserved0A0B (b : BitVec 1) : Statement (.reserved0A0B b) := by
  show _ = _; revert b; decide
theorem reserved0C0F (x : BitVec 2) : Statement (.reserved0C0F x) := by
  show _ = _; revert x; decide
theorem reservedBit4 (hi : BitVec 3) (lo : BitVec 4) : Statement (.reservedBit4 hi lo) := by
  show _ = _; revert lo; revert hi; decide
theorem reservedBit5 (hi : BitVec 2) (lo : BitVec 4) : Statement (.reservedBit5 hi lo) := by
  show _ = _; revert lo; revert hi; decide
theorem reservedBit6 (hi : BitVec 1) (lo : BitVec 4) : Statement (.reservedBit6 hi lo) := by
  show _ = _; revert lo; revert hi; decide
theorem reservedBit7 (lo : BitVec 4) : Statement (.reservedBit7 lo) := by
  show _ = _; revert lo; decide
theorem busSelForce (reg : Byte) : Statement (.busSelForce reg) := trivial
theorem busRdForce (reg : Byte) : Statement (.busRdForce reg) := rfl
theorem busEnterCm : Statement .busEnterCm := by show _ = _; decide
theorem busReqWord2 : Statement .busReqWord2 := by show _ = _; decide
theorem busFetchWord : Statement .busFetchWord := rfl
theorem busWriteWord2 (h l : Byte) : Statement (.busWriteWord2 h l) := by
  show (Config.cmdWriteWord2 ++ h ++ l) &&& 0xFF0000#24 = 0x420000#24
  apply BitVec.eq_of_getLsbD_eq
  intro i hi
  simp only [Config.cmdWriteWord2, BitVec.getLsbD_and, BitVec.getLsbD_append]
  interval_cases i <;> simp
theorem busExitCm : Statement .busExitCm := by show _ = _; decide
theorem busPin (v : BitVec 1) : Statement (.busPin v) := trivial

end Sys2Proof.Laws.RowFits
end

