-- ==== Sys2Proof/Laws/Sequencer.lean ====
section
/-! SUPPORT. What the sequencer does over several micro-steps, and what no micro-step changes. -/

namespace Sys2Proof.Machine

open Sys2Proof.Config

/-! ## Words -/

/-- `(b0 << 8) | b1` is the two bytes side by side, `b0` in the high half. -/
theorem rawReading_eq_append (b0 b1 : Byte) : rawReading b0 b1 = b0 ++ b1 := by
  unfold rawReading
  apply BitVec.eq_of_getLsbD_eq
  intro i hi
  simp only [BitVec.getLsbD_or, BitVec.getLsbD_shiftLeft, BitVec.getLsbD_setWidth, BitVec.getLsbD_append, hi]
  by_cases h : i < 8
  · simp [h]
  · have : i - 8 < 16 := by omega
    simp [h, this, BitVec.getLsbD_of_ge b1 i (by omega)]

/-- The configuration word is the first and the third reply byte side by side. -/
theorem fetchedWord_eq_append (f0 f2 : Byte) : fetchedWord f0 f2 = f0 ++ f2 :=
  rawReading_eq_append f0 f2

/-- The bits of the patched word. -/
theorem patchWord_getLsbD (w : U16) (a : U7) (i : Nat) :
    (patchWord w a).getLsbD i =
      (w.getLsbD i && keepMask.getLsbD i || (decide (i < 16) && !decide (i < 3) && a.getLsbD (i - 3))
        || (decide (i < 16) && !decide (i < 10) && modeTag.getLsbD (i - 10))) := by
  simp only [patchWord, BitVec.getLsbD_or, BitVec.getLsbD_and, BitVec.getLsbD_shiftLeft, BitVec.getLsbD_setWidth]
  by_cases h : i < 16
  · have h3 : i - 3 < 16 := by omega
    have h10 : i - 10 < 16 := by omega
    simp [h, h3, h10]
  · simp [h]

/-! ## Control positions -/

/-- The control positions that are a step of some operation, one by one. -/
theorem legal_positions (op : SeqOp) (step : BitVec 4) (sub : BitVec 2) (h : microAt op step sub ≠ .hold) :
    (op = .rdraw ∧ sub = 0 ∧ (step = 1 ∨ step = 2 ∨ step = 3 ∨ step = 4)) ∨
    (op = .zcap ∧ sub = 0 ∧ step = 1) ∨ (op = .calld ∧ sub = 0 ∧ step = 1) ∨
    (op = .fconv ∧ sub = 0 ∧ step = 1) ∨ (op = .setcal ∧ sub = 0 ∧ step = 1) ∨
    (op = .rdforce ∧ sub = 0 ∧ (step = 1 ∨ step = 2 ∨ step = 3 ∨ step = 4 ∨ step = 5)) ∨
    (op = .calib ∧ sub = 0 ∧ (step = 1 ∨ step = 2 ∨ step = 3 ∨ step = 4)) ∨
    (op = .chaddr ∧
      ((step = 1 ∨ step = 8) ∧ (sub = 0 ∨ sub = 1 ∨ sub = 2 ∨ sub = 3) ∨
       (step = 2 ∨ step = 3 ∨ step = 6 ∨ step = 7) ∧ (sub = 0 ∨ sub = 1) ∨ (step = 4 ∨ step = 5) ∧ sub = 0)) := by
  have hstep : ∀ x : BitVec 4, x = 0 ∨ x = 1 ∨ x = 2 ∨ x = 3 ∨ x = 4 ∨ x = 5 ∨ x = 6 ∨ x = 7 ∨ x = 8 ∨ x = 9
      ∨ x = 10 ∨ x = 11 ∨ x = 12 ∨ x = 13 ∨ x = 14 ∨ x = 15 := by decide
  have hsub : ∀ x : BitVec 2, x = 0 ∨ x = 1 ∨ x = 2 ∨ x = 3 := by decide
  rcases hsub sub with rfl | rfl | rfl | rfl <;>
    rcases hstep step with rfl | rfl | rfl | rfl | rfl | rfl | rfl | rfl | rfl | rfl | rfl | rfl | rfl | rfl | rfl | rfl <;>
    cases op <;> revert h <;> decide

/-! ## Runs -/

/-- A run of `m + n` micro-steps is a run of `m` and then of `n`. -/
theorem runSeq_add (m n : Nat) (s : State) : runSeq (m + n) s = runSeq n (runSeq m s) := by
  induction m generalizing s with
  | zero => simp
  | succ m ih => rw [Nat.add_right_comm]; simp [ih]

/-- With no operation running a micro-step changes nothing. -/
theorem tick_idle (s : State) (h : s.seqOp = .idle) : tick s = s := by
  simp [tick, State.micro, h, microAt, runMicro]

/-- With no operation running a run changes nothing. -/
theorem runSeq_idle (n : Nat) (s : State) (h : s.seqOp = .idle) : runSeq n s = s := by
  induction n with
  | zero => rfl
  | succ n ih => simp [tick_idle s h, ih]

/-- The first power cycle of CHADDR, both pin writes completed (42_address_change.md R118). -/
theorem run_firstPowerCycle (s : State) (x y : List Byte) (rest : List Answer)
    (hop : s.seqOp = .chaddr) (hstep : s.seqStep = 1) (hsub : s.seqSub = 0)
    (ha : s.answers = .complete x :: .complete y :: rest) :
    runSeq 4 s = { s with
      pwr := 1, answers := rest, seqStep := 2
      trace := s.trace ++ [.pin 0 .completed, .wait .tOff, .pin 1 .completed, .wait .tSettle] } := by
  cases s
  simp only at hop hstep hsub ha
  subst hop hstep hsub ha
  simp [tick, runMicro, State.micro, microAt, powerCycleAt, issuePin, pinWrite, transact, Attempt.settle,
    State.advance, lastSub, lastStep, State.emit, State.dropAnswer, State.setPwr, State.goTo, waitFor]

/-- The last power cycle of CHADDR, both pin writes completed: the operation completes (R126, R127). -/
theorem run_lastPowerCycle (s : State) (x y : List Byte) (rest : List Answer)
    (hop : s.seqOp = .chaddr) (hstep : s.seqStep = 8) (hsub : s.seqSub = 0)
    (ha : s.answers = .complete x :: .complete y :: rest) :
    runSeq 4 s = { s with
      pwr := 1, answers := rest, busy := false, seqOp := .idle, seqStep := 0
      trace := s.trace ++ [.pin 0 .completed, .wait .tOff, .pin 1 .completed, .wait .tSettle]
      records := s.records ++ [⟨.ok, s.wAck, 0, none, none⟩] } := by
  cases s
  simp only at hop hstep hsub ha
  subst hop hstep hsub ha
  simp [tick, runMicro, State.micro, microAt, powerCycleAt, issuePin, pinWrite, transact, Attempt.settle,
    State.advance, lastSub, lastStep, State.emit, State.dropAnswer, State.setPwr, State.goTo, waitFor,
    State.complete, State.deliver, okRecord, reportedWarning]

/-- The command byte and payload of the command steps of CHADDR. -/
def commandFrame (s : State) (step : BitVec 4) : Byte × Byte × Byte :=
  if step = 2 then (cmdEnter, 0, 0)
  else if step = 3 then (cmdReqWord2, 0, 0)
  else if step = 6 then (cmdWriteWord2, highByte s.newWord, lowByte s.newWord)
  else (cmdExit, 0, 0)

/-- A command step of CHADDR, its write completed: the write, its wait, and the next step (R119, R120, R124, R125). -/
theorem run_command (s : State) (x : List Byte) (rest : List Answer) (hop : s.seqOp = .chaddr)
    (hstep : s.seqStep = 2 ∨ s.seqStep = 3 ∨ s.seqStep = 6 ∨ s.seqStep = 7) (hsub : s.seqSub = 0)
    (ha : s.answers = .complete x :: rest) :
    runSeq 2 s = { s with
      answers := rest, seqStep := s.seqStep + 1
      trace := s.trace ++
        [.wr s.tOld (commandFrame s s.seqStep).1 (commandFrame s s.seqStep).2.1 (commandFrame s s.seqStep).2.2 .completed,
         .wait .tCmd] } := by
  cases s
  simp only at hop hsub ha
  subst hop hsub ha
  rcases hstep with h | h | h | h <;> simp only at h <;> subst h <;>
  simp [tick, runMicro, State.micro, microAt, commandAt, issueWr, busWrite, transact, Attempt.settle,
    State.advance, lastSub, lastStep, State.emit, State.dropAnswer, State.goTo, waitFor, commandFrame]

/-- The fetch and the patch of CHADDR, the read completed (R121 to R123). -/
theorem run_fetchAndPatch (s : State) (f0 f1 f2 : Byte) (more : List Byte) (rest : List Answer)
    (hop : s.seqOp = .chaddr) (hstep : s.seqStep = 4) (hsub : s.seqSub = 0)
    (ha : s.answers = .complete (f0 :: f1 :: f2 :: more) :: rest) :
    runSeq 2 s = { s with
      answers := rest, seqStep := 6, f0 := f0, f1 := f1, f2 := f2
      word := fetchedWord f0 f2, newWord := patchWord (fetchedWord f0 f2) s.tNew
      wAck := s.wAck || ackMismatch f0
      trace := s.trace ++ [.rd s.tOld regFetch 3 (some [f0, f1, f2])] } := by
  cases s
  simp only at hop hstep hsub ha
  subst hop hstep hsub ha
  have enough : ¬ more.length + 1 + 1 + 1 < 3 := by omega
  simp [enough, tick, runMicro, State.micro, microAt, singleAt, issueFetch, busRead, Attempt.settle, State.advance, lastSub,
    lastStep, State.emit, State.dropAnswer, State.goTo, State.latchFetch, State.patch]

/-! ## What no micro-step changes -/

/-- What every update of a run keeps: the device address and the presented commands stay, and the trace and the records
only grow. -/
structure Extends (s t : State) : Prop where
  devAddr : t.devAddr = s.devAddr
  commands : t.commands = s.commands
  trace : s.trace <+: t.trace
  records : s.records <+: t.records

theorem Extends.refl (s : State) : Extends s s :=
  ⟨rfl, rfl, List.prefix_refl _, List.prefix_refl _⟩

theorem Extends.trans {s t u : State} (h : Extends s t) (k : Extends t u) : Extends s u :=
  ⟨k.devAddr.trans h.devAddr, k.commands.trans h.commands, h.trace.trans k.trace, h.records.trans k.records⟩

theorem extends_emit (s : State) (e : Event) : Extends s (s.emit e) :=
  ⟨rfl, rfl, List.prefix_append _ _, List.prefix_refl _⟩

theorem extends_deliver (s : State) (c : Completion) : Extends s (s.deliver c) :=
  ⟨rfl, rfl, List.prefix_refl _, List.prefix_append _ _⟩

theorem extends_advance (s : State) : Extends s s.advance := by
  rcases advance_cases s with ⟨_, e⟩ | ⟨_, _, e⟩ | ⟨_, _, _, e⟩ | ⟨_, _, _, e⟩ <;> rw [e]
  · exact .refl s
  · exact ⟨rfl, rfl, List.prefix_refl _, List.prefix_refl _⟩
  · exact ⟨rfl, rfl, List.prefix_refl _, List.prefix_refl _⟩
  · exact extends_deliver s _

theorem extends_raiseError (s : State) (status : Status) (step : BitVec 4) : Extends s (s.raiseError status step) := by
  by_cases h : s.seqOp = .idle
  · rw [raiseError_idle s status step h]; exact .refl s
  · rw [raiseError_running s status step h]; exact extends_deliver s _

end Sys2Proof.Machine
end

