-- ==== Sys2Proof/Tests/Slice0.lean ====
section
/-! SUPPORT. The model's own tests: the well-formedness smoke test, one word per row written out from the spec's
encodings, single operations against 95_test_vectors.md, and for every statement with hypotheses a concrete state and
operands that meet them all. -/

namespace Sys2Proof.Tests

open Sys2Proof.Machine Sys2Proof.Claims

/-! ## Helpers -/

/-- The vectors' start state: constructed at device address 0x28. -/
def fresh : State := State.construct 0x28

/-- The start state with a calibration. -/
def calibrated (zero : U16) (sens : Sys2Proof.Num) : State := { fresh with zeroOffset := zero, sens := sens }

/-- A state with the transport's answers to come. -/
def answering (s : State) (as : List Answer) : State := { s with answers := as }

/-- A state with the capture source's samples to come. -/
def sampling (s : State) (xs : List Sample) : State := { s with samples := xs }

/-- A state inside an operation. -/
def within (op : SeqOp) (step : BitVec 4) (sub : BitVec 2) (as : List Answer) : State :=
  { fresh with busy := true, seqOp := op, seqStep := step, seqSub := sub, tOld := 0x28, answers := as }

/-- A call that completes and delivers no bytes. -/
def done : Answer := .complete []

/-- The nine answers of a successful address change with a given fetch reply. -/
def changeAnswers (reply : List Byte) : List Answer :=
  [done, done, done, done, .complete reply, done, done, done, done]

/-- The state an instruction leaves. -/
def after (i : Instr) (s : State) : State :=
  match exec i s with
  | .next t => t
  | .fault f => nomatch f
  | .refused _ => s

/-! ## Well-formedness -/

/-- Bits [14:13] set are refused, and so is another mode tag; the corrected word S4 passes. -/
theorem test_wellFormed_writeWord2 :
    (Instr.busWriteWord2 0x2D 0x54).wellFormed = false ∧ (Instr.busWriteWord2 0x4D 0x54).wellFormed = false ∧
    (Instr.busWriteWord2 0x09 0x54).wellFormed = false ∧ (Instr.busWriteWord2 0x1D 0x54).wellFormed = false ∧
    (Instr.busWriteWord2 0x0D 0x54).wellFormed = true ∧ (Instr.busWriteWord2 0x8F 0xFF).wellFormed = true := by decide

/-! ## Decoding, one word per row written out bit by bit from 30_encoding.md -/

theorem test_decode_rdraw : decodeTableWord 8 0b00000001 = some (.rdraw 0) := by decide
theorem test_decode_zcap : decodeTableWord 8 0b00000010 = some (.zcap 0) := by decide
theorem test_decode_calld : decodeTableWord 8 0b00000011 = some (.calld 0 0) := by decide +kernel
theorem test_decode_fconv : decodeTableWord 8 0b00000100 = some (.fconv 0) := by decide
theorem test_decode_setcal : decodeTableWord 8 0b00000101 = some (.setcal 0 0) := by decide +kernel
theorem test_decode_chaddr : decodeTableWord 8 0b00000110 = some (.chaddr 0) := by decide
theorem test_decode_rdforce : decodeTableWord 8 0b00000111 = some .rdforce := by decide
theorem test_decode_calib : decodeTableWord 8 0b00001000 = some .calib := by decide
theorem test_decode_reserved00 : decodeTableWord 8 0b00000000 = some .reserved00 := by decide
theorem test_decode_reserved09 : decodeTableWord 8 0b00001001 = some .reserved09 := by decide
theorem test_decode_reserved0A0B : decodeTableWord 8 0b00001011 = some (.reserved0A0B 1) := by decide
theorem test_decode_reserved0C0F : decodeTableWord 8 0b00001111 = some (.reserved0C0F 3) := by decide
theorem test_decode_reservedBit4 : decodeTableWord 8 0b11111111 = some (.reservedBit4 7 15) := by decide
theorem test_decode_reservedBit5 : decodeTableWord 8 0b01100001 = some (.reservedBit5 1 1) := by decide
theorem test_decode_reservedBit6 : decodeTableWord 8 0b11000110 = some (.reservedBit6 1 6) := by decide
theorem test_decode_reservedBit7 : decodeTableWord 8 0b10000110 = some (.reservedBit7 6) := by decide
theorem test_decode_selForce : decode (.bus (.sel 0b00000110)) = .ok (.busSelForce 0x06) := by rfl
theorem test_decode_rdForce : decode (.bus (.rd 0b00000110 2)) = .ok (.busRdForce 0x06) := by rfl
theorem test_decode_enterCm : decodeTableWord 24 0b101000000000000000000000 = some .busEnterCm := by decide
theorem test_decode_reqWord2 : decodeTableWord 24 0b000000100000000000000000 = some .busReqWord2 := by decide
theorem test_decode_fetchWord : decode (.bus (.rd 0b00000000 3)) = .ok .busFetchWord := by rfl
theorem test_decode_writeWord2 :
    decodeTableWord 24 0b010000100000110101010100 = some (.busWriteWord2 0x0D 0x54) := by decide
theorem test_decode_exitCm : decodeTableWord 24 0b100000000000000000000000 = some .busExitCm := by decide
theorem test_decode_pin :
    decodeTableWord 1 0b0 = some (.busPin 0) ∧ decodeTableWord 1 0b1 = some (.busPin 1) := by decide

/-- The operand ports reach the fields of the instruction; a port the row does not list does not (R80, vector H8). -/
theorem test_decode_operands :
    decode (.host ⟨0x01, 0x10, 0xFFFF, 7, 0x7F⟩) = .ok (.rdraw 0x10) ∧
    decode (.host ⟨0x03, 0xFF, 0x05DC, 50, 0x7F⟩) = .ok (.calld 0x05DC 50) ∧
    decode (.host ⟨0x04, 0xFF, 0x07D0, 7, 0x7F⟩) = .ok (.fconv 0x07D0) ∧
    decode (.host ⟨0x06, 0xFF, 0xFFFF, 7, 0x2A⟩) = .ok (.chaddr 0x2A) := ⟨rfl, rfl, rfl, rfl⟩

/-- Frames that are no row are refused by name. -/
theorem test_decode_refuses :
    decode (.bus (.wr3 0xA1 0 0)) = .error (.unknownCommandByte 0xA1) ∧
    decode (.bus (.wr3 0xA0 0 1)) = .error (.payloadNotZero 0xA0 0 1) ∧
    decode (.bus (.rd 0x06 3)) = .error (.readShapeUnused 0x06 3) ∧
    decodeTableWord 16 0 = none := ⟨rfl, rfl, rfl, rfl⟩

/-! ## Operations, against the vectors -/

/-- R7: the first byte is the high byte. -/
theorem test_rdraw_reading :
    (after (.rdraw 0x06) (answering fresh [done, .complete [0x34, 0x12]])).records =
      [okRec false (some 0x3412) none] := by decide
/-- R9 and the sentence after R11: one byte delivered is a failed read. -/
theorem test_rdraw_shortRead :
    (after (.rdraw 0x06) (answering fresh [done, .complete [0xAB]])).records =
      [errRec .transportError false 3] := by decide
/-- K32: the offset is replaced at once, the sensitivity kept. -/
theorem test_zcap : (after (.zcap 1200) (calibrated 1000 (1/10))).zeroOffset = 1200 ∧
    (after (.zcap 1200) (calibrated 1000 (1/10))).sens = 1/10 := by decide +kernel
/-- K18. -/
theorem test_calld_negative : (after (.calld 500 50) (calibrated 1000 1)).sens = -1/10 := by decide +kernel
/-- K16: the force plays no part. -/
theorem test_calld_degenerate :
    (after (.calld 1000 0) (calibrated 1000 7)).records = [errRec .degenerateCalibration false 0] ∧
    (after (.calld 1000 0) (calibrated 1000 7)).sens = 7 := by decide +kernel
/-- K9: no modular wrap. -/
theorem test_fconv_lowest :
    (after (.fconv 0) (calibrated 65535 1)).records = [okRec false none (some (-65535))] := by decide +kernel
/-- K25: a rational result is exact. -/
theorem test_fconv_exact :
    (after (.fconv 1001) (calibrated 1000 (7/3))).records = [okRec false none (some (7/3))] := by decide +kernel
/-- K31: no validation. -/
theorem test_setcal : (after (.setcal 0xFFFF (-3)) fresh).zeroOffset = 0xFFFF ∧
    (after (.setcal 0xFFFF (-3)) fresh).sens = -3 := by decide +kernel
/-- A7 and program P5: the event of the write, and a warning beside OK. -/
theorem test_chaddr_wrongAck :
    (after (.chaddr 0x29) (answering fresh (changeAnswers [0xDA, 0x00, 0x05]))).trace[9]? =
      some (.wr 0x28 0x42 0x8D 0x4D .completed) ∧
    (after (.chaddr 0x29) (answering fresh (changeAnswers [0xDA, 0x00, 0x05]))).records =
      [okRec true none none] := by decide
/-- F9: the last rising edge fails. -/
theorem test_chaddr_lastEdgeFails :
    (after (.chaddr 0x2A)
      (answering fresh ((changeAnswers [0x5A, 0x00, 0x34]).take 8 ++ [.fail]))).records =
      [errRec .protocolAborted false 8] ∧
    (after (.chaddr 0x2A)
      (answering fresh ((changeAnswers [0x5A, 0x00, 0x34]).take 8 ++ [.fail]))).pwr = 0 := by decide
/-- M6. -/
theorem test_rdforce :
    (after .rdforce (answering (calibrated 1000 (1/10)) [done, .complete [0x03, 0x84]])).records =
      [okRec false none (some (-10))] := by decide +kernel
/-- M3: no reading. -/
theorem test_rdforce_selectFails :
    (after .rdforce (answering (calibrated 1000 (1/10)) [.fail])).records = [errRec .transportError false 1] := by decide
/-- M10. -/
theorem test_calib : (after .calib (sampling fresh [⟨2000, 0⟩, ⟨1500, 50⟩])).zeroOffset = 2000 ∧
    (after .calib (sampling fresh [⟨2000, 0⟩, ⟨1500, 50⟩])).sens = -1/10 := by decide +kernel
/-- R145: the capture signals at CALIB's first step, and none outside CALIB. -/
theorem test_captureSignals :
    (after .calib fresh).capReq = true ∧ (after .calib fresh).capKind = some 0 ∧
    (within .chaddr 3 0 []).capReq = false ∧ (within .chaddr 3 0 []).capKind = none := by decide
/-- M8: new offset, old sensitivity. -/
theorem test_calib_degenerate :
    (after .calib (sampling (calibrated 200 7) [⟨1000, 0⟩, ⟨1000, 50⟩])).zeroOffset = 1000 ∧
    (after .calib (sampling (calibrated 200 7) [⟨1000, 0⟩, ⟨1000, 50⟩])).sens = 7 ∧
    (after .calib (sampling (calibrated 200 7) [⟨1000, 0⟩, ⟨1000, 50⟩])).records =
      [errRec .degenerateCalibration false 0] := by decide +kernel
/-- H1, H3 to H7: the reserved rows report IllegalCommand and leave no event. -/
theorem test_reserved :
    (after .reserved00 fresh).records = [errRec .illegalCommand false 0] ∧
    (after .reserved09 fresh).records = [errRec .illegalCommand false 0] ∧
    (after (.reserved0A0B 1) fresh).records = [errRec .illegalCommand false 0] ∧
    (after (.reserved0C0F 3) fresh).records = [errRec .illegalCommand false 0] ∧
    (after (.reservedBit4 0 1) fresh).records = [errRec .illegalCommand false 0] ∧
    (after (.reservedBit5 0 0) fresh).records = [errRec .illegalCommand false 0] ∧
    (after (.reservedBit6 0 0) fresh).records = [errRec .illegalCommand false 0] ∧
    (after (.reservedBit7 6) fresh).records = [errRec .illegalCommand false 0] ∧
    (after (.reservedBit7 6) fresh).trace = [] := by decide
/-- R3 of the vectors, event by event: the select. -/
theorem test_busSelForce :
    (after (.busSelForce 0x06) (within .rdraw 1 0 [done])).trace = [.sel 0x28 0x06 .completed] := by decide
/-- The read. -/
theorem test_busRdForce :
    (after (.busRdForce 0x06) (within .rdraw 3 0 [.complete [0xFF, 0x01]])).b1 = 0x01 := by decide
/-- Event 5 of T-OK. -/
theorem test_busEnterCm :
    (after .busEnterCm (within .chaddr 2 0 [done])).trace = [.wr 0x28 0xA0 0 0 .completed] := by decide
/-- F4: a failed write ends the operation at step 3. -/
theorem test_busReqWord2_fails :
    (after .busReqWord2 (within .chaddr 3 0 [.fail])).records = [errRec .protocolAborted false 3] := by decide
/-- A5: the middle byte does not reach the word. -/
theorem test_busFetchWord :
    (after .busFetchWord (within .chaddr 4 0 [.complete [0x12, 0x99, 0x34]])).word = 0x1234 ∧
    (after .busFetchWord (within .chaddr 4 0 [.complete [0x12, 0x99, 0x34]])).wAck = true := by decide
/-- Event 10 of T-OK. -/
theorem test_busWriteWord2 :
    (after (.busWriteWord2 0x0D 0x54) (within .chaddr 6 0 [done])).trace = [.wr 0x28 0x42 0x0D 0x54 .completed] := by
  decide
/-- Event 12 of T-OK. -/
theorem test_busExitCm :
    (after .busExitCm (within .chaddr 7 0 [done])).trace = [.wr 0x28 0x80 0 0 .completed] := by decide
/-- F1: a failed falling edge leaves `PWR` as it was. -/
theorem test_busPin_fails :
    (after (.busPin 0) (within .chaddr 1 0 [.fail])).pwr = 1 ∧ (after (.busPin 0) (within .chaddr 1 0 [done])).pwr = 0 := by
  decide

/-! ## The pure patch, table of 95_test_vectors.md section 2.3 -/

theorem test_patchWord :
    patchWord 0x1234 0x2A = 0x0D54 ∧ patchWord 0xFFFF 0x7F = 0x8FFF ∧ patchWord 0xFFFF 0x00 = 0x8C07 ∧
    patchWord 0x7FF8 0x55 = 0x0EA8 ∧ patchWord 0x6000 0x00 = 0x0C00 := by decide

/-! ## Where a word of the table is put -/

/-- The very next step after reset runs the word. -/
theorem test_withFetchWord :
    step (State.reset.withFetchWord 8 0x07) = exec .rdforce State.reset ∧
    step (State.reset.withFetchWord 24 0x420D54) =
      exec (.busWriteWord2 0x0D 0x54) (State.reset.withFetchWord 24 0x420D54) ∧
    step (State.reset.withFetchWord 1 0) = exec (.busPin 0) (State.reset.withFetchWord 1 0) := ⟨rfl, rfl, rfl⟩

/-! ## Witnesses: the hypotheses of every statement that has some are met by a concrete state and concrete operands -/

/-- ReservedHeadersAreExactlyTheOthers, with headers at the boundaries of both sides. -/
theorem witness_ReservedHeadersAreExactlyTheOthers :
    fresh.busy = false ∧ decodeHost { hdr := 0x00 } = .reserved00 ∧ decodeHost { hdr := 0x01 } = .rdraw 0 ∧
    decodeHost { hdr := 0x08 } = .calib ∧ decodeHost { hdr := 0x09 } = .reserved09 ∧
    decodeHost { hdr := 0xFF } = .reservedBit4 7 15 := by decide
theorem witness_DecodeOfEncodeIsTheInstruction : (Instr.busWriteWord2 0x8F 0xFF).wellFormed = true := by decide
theorem witness_EncodeOfDecodeKeepsTheWords :
    decode (.bus (.wr3 0x80 0x00 0x00)) = .ok .busExitCm := by rfl
theorem witness_DifferenceIsExact :
    (0 : U16).toNat < (65535 : U16).toNat ∧ (65534 : U16).toNat < (65535 : U16).toNat := by decide
theorem witness_RdrawReturnsTheReading :
    (answering fresh [done, .complete [0x03, 0xE8]]).busy = false ∧
    (answering fresh [done, .complete [0x03, 0xE8]]).answers = .complete [] :: .complete (0x03 :: 0xE8 :: []) :: [] := by
  decide
theorem witness_RawReadingIsHighByteFirst :
    (answering fresh [done, .complete [0x80, 0x00]]).busy = false ∧
    (answering fresh [done, .complete [0x80, 0x00]]).answers = .complete [] :: .complete [0x80, 0x00] :: [] ∧
    exec (.rdraw 0x06) (answering fresh [done, .complete [0x80, 0x00]]) =
      .next (after (.rdraw 0x06) (answering fresh [done, .complete [0x80, 0x00]])) := ⟨rfl, rfl, rfl⟩
/-- Both clauses: the select fails; the read delivers one byte of two. -/
theorem witness_RdrawFailureEndsAtTheFailedEvent :
    fresh.busy = false ∧ (answering fresh [.fail]).answers = .fail :: [] ∧
    ([0xAB] : List Byte).length < 2 ∧
    (answering fresh [done, .complete [0xAB]]).answers = .complete [] :: .complete [0xAB] :: [] := by decide
theorem witness_ZcapWritesOnlyTheOffset : fresh.busy = false := by decide
/-- Both clauses: one count away from the offset, and at it. -/
theorem witness_CalldFitsTheSensitivity :
    (calibrated 1000 7).busy = false ∧ (1001 : U16) ≠ (calibrated 1000 7).zeroOffset ∧
    (1000 : U16) = (calibrated 1000 7).zeroOffset := by decide
theorem witness_DegenerateTestIsExactEquality :
    (calibrated 1000 1).busy = false ∧ (calibrated 1000 1).zeroOffset = 1000 := by decide
theorem witness_FconvReturnsTheForce : (calibrated 65535 1).busy = false := by decide
theorem witness_SetcalWritesBothConstants : (calibrated 65535 1).busy = false := by decide
theorem witness_CalibrationPointIsReproduced :
    (calibrated 1000 1).busy = false ∧ (1500 : U16) ≠ (calibrated 1000 1).zeroOffset := by decide
theorem witness_ForceSlopeIsTheSensitivity :
    (calibrated 1000 1).busy = false ∧ (65534 : U16).toNat < 65535 ∧ (0 : U16).toNat < 65535 := by decide
theorem witness_ChaddrIssuesTheSeventeenEvents :
    (answering fresh (changeAnswers [0x5A, 0x00, 0x34])).busy = false ∧
    (answering fresh (changeAnswers [0x5A, 0x00, 0x34])).answers =
      .complete [] :: .complete [] :: .complete [] :: .complete [] :: .complete (0x5A :: 0x00 :: 0x34 :: []) ::
      .complete [] :: .complete [] :: .complete [] :: .complete [] :: [] := by decide
/-- The first, the fifth (a short fetch) and the last failure point. -/
theorem witness_ChaddrNineFailurePoints :
    fresh.busy = false ∧
    (answering fresh [.fail]).answers = [] ++ Answer.fail :: [] ∧
    ([done, done, done, done].length = 4 ∧ ([0x5A, 0x00] : List Byte).length < 3 ∧
      (answering fresh [done, done, done, done, .complete [0x5A, 0x00]]).answers =
        [done, done, done, done] ++ Answer.complete [0x5A, 0x00] :: []) ∧
    (((changeAnswers [0x00, 0x00, 0x34]).take 8).length = 8 ∧
      ((changeAnswers [0x00, 0x00, 0x34]).take 8)[4]? = some (.complete (0x00 :: 0x00 :: 0x34 :: [])) ∧
      (∀ x ∈ (changeAnswers [0x00, 0x00, 0x34]).take 8, x ≠ .fail) ∧
      (answering fresh ((changeAnswers [0x00, 0x00, 0x34]).take 8 ++ [.fail])).answers =
        (changeAnswers [0x00, 0x00, 0x34]).take 8 ++ Answer.fail :: []) := by decide
theorem witness_MiddleReplyByteInfluencesNothing :
    fresh.busy = false ∧ [done, done, done, done].length = 4 := by decide
theorem witness_ChaddrLeavesTheCalibrationAlone :
    exec (.chaddr 0x2A) (answering (calibrated 1000 7) (changeAnswers [0x5A, 0x00, 0x34])) =
      .next (after (.chaddr 0x2A) (answering (calibrated 1000 7) (changeAnswers [0x5A, 0x00, 0x34]))) := by rfl
theorem witness_PatchStepWritesTheFormula :
    (within .chaddr 5 0 []).busy = true ∧ (within .chaddr 5 0 []).seqOp = .chaddr ∧
    (within .chaddr 5 0 []).seqStep = 5 ∧ (within .chaddr 5 0 []).seqSub = 0 := by decide
theorem witness_WritePayloadIsHighThenLow :
    (within .chaddr 6 0 []).seqOp = .chaddr ∧ (within .chaddr 6 0 []).seqStep = 6 ∧
    (within .chaddr 6 0 []).seqSub = 0 := by decide
theorem witness_RdforceReturnsTheForce :
    (answering (calibrated 1000 7) [done, .complete [0x07, 0xD0]]).busy = false ∧
    (answering (calibrated 1000 7) [done, .complete [0x07, 0xD0]]).answers =
      .complete [] :: .complete (0x07 :: 0xD0 :: []) :: [] := by decide
/-- All three clauses. -/
theorem witness_NoReadingIsNotZeroForce :
    (calibrated 1000 7).busy = false ∧
    (answering (calibrated 1000 7) [done, .complete [0x03, 0xE8]]).answers = .complete [] :: .complete [0x03, 0xE8] :: [] ∧
    (0x03#8 ++ 0xE8#8 : U16) = (calibrated 1000 7).zeroOffset ∧
    (answering (calibrated 1000 7) [.fail]).answers = .fail :: [] ∧
    ([0x03] : List Byte).length < 2 ∧
    (answering (calibrated 1000 7) [done, .complete [0x03]]).answers = .complete [] :: .complete [0x03] :: [] := by decide
theorem witness_RdforceIsRdrawThenFconv :
    (answering (calibrated 1000 7) [done, .complete [0x07, 0xD0]]).busy = false := by decide
theorem witness_CalibFitsFromTwoSamples :
    (sampling fresh [⟨1000, 0⟩, ⟨1500, 50⟩]).busy = false ∧
    (sampling fresh [⟨1000, 0⟩, ⟨1500, 50⟩]).samples = ⟨1000, 0⟩ :: ⟨1500, 50⟩ :: [] ∧
    (1500 : U16) ≠ 1000 := by decide +kernel
theorem witness_DegenerateCalibKeepsTheNewOffset :
    (sampling (calibrated 200 7) [⟨1000, 0⟩, ⟨1000, 50⟩]).busy = false ∧
    (sampling (calibrated 200 7) [⟨1000, 0⟩, ⟨1000, 50⟩]).samples = ⟨1000, 0⟩ :: ⟨1000, 50⟩ :: [] := by decide +kernel
theorem witness_CalibIsZcapThenCalld :
    (sampling fresh [⟨1000, 0⟩, ⟨1500, 50⟩]).busy = false ∧
    (sampling fresh [⟨1000, 0⟩, ⟨1500, 50⟩]).samples = ⟨1000, 0⟩ :: ⟨1500, 50⟩ :: [] := by decide +kernel
/-- Both clauses: no sample, one sample. -/
theorem witness_CalibHoldsForItsSamples :
    fresh.busy = false ∧ fresh.samples = [] ∧ (sampling fresh [⟨1000, 0⟩]).busy = false ∧
    (sampling fresh [⟨1000, 0⟩]).samples = [⟨1000, 0⟩] := by decide +kernel
theorem witness_ReservedRowsReportIllegalCommand : fresh.busy = false := by decide
theorem witness_BusyBlockAcceptsNoCommand :
    (within .chaddr 4 0 []).busy = true ∧ step (within .chaddr 4 0 []) = .next (within .chaddr 4 0 []) := ⟨rfl, rfl⟩
/-- Both rows. -/
theorem witness_RawReadFramesAdvance :
    (within .rdraw 1 0 [done]).seqOp = .rdraw ∧ (within .rdraw 1 0 [done]).seqSub = 0 ∧
    (within .rdraw 1 0 [done]).seqStep = 1 ∧ (within .rdraw 1 0 [done]).answers = .complete [] :: [] ∧
    (within .rdforce 3 0 [.complete [0x12, 0x34]]).seqOp = .rdforce ∧
    (within .rdforce 3 0 [.complete [0x12, 0x34]]).seqSub = 0 ∧
    (within .rdforce 3 0 [.complete [0x12, 0x34]]).seqStep = 3 ∧
    (within .rdforce 3 0 [.complete [0x12, 0x34]]).answers = .complete (0x12 :: 0x34 :: []) :: [] := by decide
/-- All four rows. -/
theorem witness_CommandFramesAdvance :
    ∀ step ∈ ([2, 3, 6, 7] : List (BitVec 4)),
      (within .chaddr step 0 [done]).seqOp = .chaddr ∧ (within .chaddr step 0 [done]).seqSub = 0 ∧
      (within .chaddr step 0 [done]).answers = .complete [] :: [] ∧ (within .chaddr step 0 [done]).seqStep = step := by
  decide
theorem witness_FetchFrameLatchesTheReply :
    (within .chaddr 4 0 [.complete [0x5A, 0x00, 0x34]]).seqOp = .chaddr ∧
    (within .chaddr 4 0 [.complete [0x5A, 0x00, 0x34]]).seqStep = 4 ∧
    (within .chaddr 4 0 [.complete [0x5A, 0x00, 0x34]]).seqSub = 0 ∧
    (within .chaddr 4 0 [.complete [0x5A, 0x00, 0x34]]).answers = .complete (0x5A :: 0x00 :: 0x34 :: []) :: [] := by decide
/-- Both power cycles, both edges. -/
theorem witness_PinFrameDrivesTheLine :
    ∀ step ∈ ([1, 8] : List (BitVec 4)), ∀ sub ∈ ([0, 2] : List (BitVec 2)),
      (within .chaddr step sub [done]).seqOp = .chaddr ∧ (within .chaddr step sub [done]).seqStep = step ∧
      (within .chaddr step sub [done]).seqSub = sub ∧ (within .chaddr step sub [done]).answers = .complete [] :: [] := by
  decide
/-- A failed write, a fetch of two bytes, a raw read of one. -/
theorem witness_FailedFrameEndsTheOperation :
    ((within .chaddr 6 0 [.fail]).seqOp ≠ .idle ∧ (within .chaddr 6 0 [.fail]).nextFrame = some (.busWriteWord2 0 0) ∧
      (within .chaddr 6 0 [.fail]).answers = .fail :: []) ∧
    ((within .chaddr 4 0 [.complete [0x5A, 0x00]]).nextFrame = some .busFetchWord ∧
      ([0x5A, 0x00] : List Byte).length < 3) ∧
    ((within .rdraw 3 0 [.complete [0x12]]).nextFrame = some (.busRdForce 0) ∧ ([0x12] : List Byte).length < 2) := by
  decide
theorem witness_UnansweredCallHoldsTheBlock :
    (within .chaddr 4 0 []).busy = true ∧ (within .chaddr 4 0 []).nextFrame = some .busFetchWord ∧
    (within .chaddr 4 0 []).answers = [] := by decide
/-- All four clauses. -/
theorem witness_StepRunsTheDecodedInstruction :
    ({ fresh with commands := [{ hdr := 0x04, opdRaw := 150 }] }.busy = false ∧
      { fresh with commands := [{ hdr := 0x04, opdRaw := 150 }] }.commands = { hdr := 0x04, opdRaw := 150 } :: [] ∧
      decode (.host { hdr := 0x04, opdRaw := 150 }) = .ok (.fconv 150) ∧ (Instr.fconv 150).wellFormed = true) ∧
    ((within .chaddr 7 0 []).busy = true ∧ (within .chaddr 7 0 []).nextFrame = some .busExitCm) ∧
    ((within .chaddr 5 0 []).busy = true ∧ (within .chaddr 5 0 []).nextFrame = none) ∧
    (fresh.busy = false ∧ fresh.commands = []) :=
  ⟨⟨rfl, rfl, rfl, rfl⟩, ⟨rfl, rfl⟩, ⟨rfl, rfl⟩, rfl, rfl⟩
/-- Both clauses: the wait of a select, the first and the last wait of a power cycle. -/
theorem witness_WaitStepAlwaysCompletes :
    ((within .rdraw 2 0 []).busy = true ∧ (within .rdraw 2 0 []).micro = .wait .tSel ∧
      ¬ ((within .rdraw 2 0 []).seqStep = 8 ∧ (within .rdraw 2 0 []).seqSub = 3)) ∧
    ((within .chaddr 8 1 []).micro = .wait .tOff ∧
      ¬ ((within .chaddr 8 1 []).seqStep = 8 ∧ (within .chaddr 8 1 []).seqSub = 3)) ∧
    ((within .chaddr 8 3 []).micro = .wait .tSettle ∧ (within .chaddr 8 3 []).seqStep = 8 ∧
      (within .chaddr 8 3 []).seqSub = 3) := by decide

/-- A command port with one address change on it, the transport answering it all: one step from here meets the premises
of every statement about a step that keeps something. -/
def changing : State :=
  { answering fresh (changeAnswers [0x5A, 0x00, 0x34]) with commands := [{ hdr := 0x06, opdAddr := 0x2A }] }

/-- The state that step leaves. -/
def changed : State := after (.chaddr 0x2A) changing.dropCommand

theorem changing_inv : SeqInv changing := by constructor <;> simp [changing, answering, fresh, State.construct]
theorem changing_step : step changing = .next changed := by rfl
theorem witness_EveryStepKeepsTheSequencerInvariant : SeqInv changing ∧ step changing = .next changed :=
  ⟨changing_inv, changing_step⟩
theorem witness_EveryStepKeepsTheRecordsLegal :
    SeqInv changing ∧ RecordsLegal changing ∧ step changing = .next changed :=
  ⟨changing_inv, by simp [RecordsLegal, changing, answering, fresh, State.construct], changing_step⟩
theorem witness_EveryStepKeepsTheTraceLegal :
    SeqInv changing ∧ TraceLegal changing ∧ step changing = .next changed :=
  ⟨changing_inv, by simp [TraceLegal, changing, answering, fresh, State.construct], changing_step⟩
theorem witness_RunsKeepTheAddressAndTheLogs : Reaches 1 changing changed := by rfl
/-- Every operation answers a next state from a state like this one. -/
theorem witness_OperationsFollowTheAccessMatrix :
    exec (.rdraw 0x06) fresh = .next (after (.rdraw 0x06) fresh) ∧ exec (.zcap 5) fresh = .next (after (.zcap 5) fresh) ∧
    exec (.calld 5 1) fresh = .next (after (.calld 5 1) fresh) ∧ exec (.fconv 5) fresh = .next (after (.fconv 5) fresh) ∧
    exec (.setcal 5 1) fresh = .next (after (.setcal 5 1) fresh) ∧
    exec (.chaddr 0x2A) fresh = .next (after (.chaddr 0x2A) fresh) ∧
    exec .rdforce fresh = .next (after .rdforce fresh) ∧ exec .calib fresh = .next (after .calib fresh) :=
  ⟨rfl, rfl, rfl, rfl, rfl, rfl, rfl, rfl⟩
/-- A falling edge inside an address change, and an accepted address change that is left without an answer after it. -/
theorem witness_PwrMovesOnlyInChaddr :
    SeqInv { answering fresh [done] with commands := [{ hdr := 0x06, opdAddr := 0x2A }] } ∧
    step { answering fresh [done] with commands := [{ hdr := 0x06, opdAddr := 0x2A }] } =
      .next (after (.chaddr 0x2A) (answering fresh [done])) ∧
    (after (.chaddr 0x2A) (answering fresh [done])).pwr ≠ fresh.pwr :=
  ⟨by constructor <;> simp [answering, fresh, State.construct], rfl, by decide⟩
/-- All eight operations. -/
theorem witness_OperationIsItsMicroSteps :
    fresh.busy = false ∧ fresh.commands = [] ∧ exec (.rdraw 0x06) fresh = .next (after (.rdraw 0x06) fresh) ∧
    exec (.zcap 5) fresh = .next (after (.zcap 5) fresh) ∧ exec (.calld 5 1) fresh = .next (after (.calld 5 1) fresh) ∧
    exec (.fconv 5) fresh = .next (after (.fconv 5) fresh) ∧ exec (.setcal 5 1) fresh = .next (after (.setcal 5 1) fresh) ∧
    exec (.chaddr 0x2A) fresh = .next (after (.chaddr 0x2A) fresh) ∧ exec .rdforce fresh = .next (after .rdforce fresh) ∧
    exec .calib fresh = .next (after .calib fresh) :=
  ⟨rfl, rfl, rfl, rfl, rfl, rfl, rfl, rfl, rfl, rfl⟩
/-- The least numbers of answers and of samples. -/
theorem witness_EveryOperationTerminates :
    fresh.busy = false ∧ 2 ≤ (answering fresh [done, done]).answers.length ∧
    9 ≤ (answering fresh (changeAnswers [])).answers.length ∧
    2 ≤ (sampling fresh [⟨1000, 0⟩, ⟨1500, 50⟩]).samples.length := by decide
theorem witness_EveryCallIsFollowedByItsWait :
    fresh.busy = false ∧ exec (.rdraw 0x06) (answering fresh [done]) = .next (after (.rdraw 0x06) (answering fresh [done])) ∧
    (after (.rdraw 0x06) (answering fresh [done])).trace = [.sel 0x28 0x06 .completed, .wait .tSel] :=
  ⟨rfl, rfl, by decide⟩
/-- The three operations that wait, each completed, and one of those that do not. -/
theorem witness_MinimumDurations :
    fresh.busy = false ∧
    (exec (.chaddr 0x2A) (answering fresh (changeAnswers [0x5A, 0x00, 0x34])) =
        .next (after (.chaddr 0x2A) (answering fresh (changeAnswers [0x5A, 0x00, 0x34]))) ∧
      (after (.chaddr 0x2A) (answering fresh (changeAnswers [0x5A, 0x00, 0x34]))).records =
        fresh.records ++ [okRec false none none]) ∧
    (exec (.rdraw 0x06) (answering fresh [done, .complete [0x03, 0xE8]]) =
        .next (after (.rdraw 0x06) (answering fresh [done, .complete [0x03, 0xE8]])) ∧
      (after (.rdraw 0x06) (answering fresh [done, .complete [0x03, 0xE8]])).records =
        fresh.records ++ [okRec false (some 0x03E8) none]) ∧
    (exec .rdforce (answering fresh [done, .complete [0x03, 0xE8]]) =
        .next (after .rdforce (answering fresh [done, .complete [0x03, 0xE8]])) ∧
      (after .rdforce (answering fresh [done, .complete [0x03, 0xE8]])).records =
        fresh.records ++ [okRec false none (some 1000)]) ∧
    exec (.zcap 5) fresh = .next (after (.zcap 5) fresh) :=
  ⟨rfl, ⟨rfl, rfl⟩, ⟨rfl, rfl⟩, ⟨rfl, by decide +kernel⟩, rfl⟩
theorem witness_ArithmeticIsTheConfiguredFormat :
    (calibrated 1000 7).busy = false ∧ (1500 : U16) ≠ (calibrated 1000 7).zeroOffset := by decide

end Sys2Proof.Tests
end

section
/-! PROOF of the least durations. Every micro-step waits for what its control position says; the waits of a whole run
are then those of the positions it passes, all of them if it completes and no more if it does not. -/

namespace Sys2Proof.Durations

open Sys2Proof.Machine Sys2Proof.Config Sys2Proof.Claims

/-! ## The waits added to the trace -/

theorem addsWaits_zero_of_trace {s t : State} (h : t.trace = s.trace) : AddsWaits s t 0 :=
  ⟨[], by simp [h], rfl⟩

theorem addsWaits_of_emit {s t : State} (e : Event) (h : t.trace = s.trace ++ [e]) : AddsWaits s t e.minMicros :=
  ⟨[e], h, by simp⟩

theorem addsWaits_trans {s t u : State} {m n : Nat} (hst : AddsWaits s t m) (htu : AddsWaits t u n) :
    AddsWaits s u (m + n) := by
  obtain ⟨es, hes, rfl⟩ := hst
  obtain ⟨fs, hfs, rfl⟩ := htu
  exact ⟨es ++ fs, by simp [hfs, hes], by simp⟩

theorem addsWaits_congr {s s' t t' : State} {n : Nat} (hs : s'.trace = s.trace) (ht : t'.trace = t.trace)
    (h : AddsWaits s t n) : AddsWaits s' t' n := by
  simpa [AddsWaits, hs, ht] using h

/-! ## The waits ahead of a control position -/

/-- The wait of one micro-step. -/
def waitOf : Micro → Nat
  | .wait d => d.micros
  | _ => 0

/-- The control position after `step`, `sub`; none after the last one (10_state.md R23). -/
def nextPosition (op : SeqOp) (step : BitVec 4) (sub : BitVec 2) : Option (BitVec 4 × BitVec 2) :=
  if sub ≠ lastSub op step then some (step, sub + 1)
  else if step ≠ lastStep op then some (step + 1, 0)
  else none

/-- The waits of the next `n` control positions, this one included. -/
def waitsAhead (op : SeqOp) : Nat → BitVec 4 → BitVec 2 → Nat
  | 0, _, _ => 0
  | n + 1, step, sub =>
    waitOf (microAt op step sub) + (nextPosition op step sub).elim 0 fun p => waitsAhead op n p.1 p.2

/-- The advance moves to the next position, or completes after the last one. -/
theorem advance_nextPosition (s : State) (hrun : s.seqOp ≠ .idle) :
    (∃ p, nextPosition s.seqOp s.seqStep s.seqSub = some p ∧ s.advance = s.goTo p.1 p.2) ∨
    (nextPosition s.seqOp s.seqStep s.seqSub = none ∧ s.advance = s.complete none none) := by
  rcases advance_cases s with ⟨hidle, _⟩ | ⟨_, hsub, e⟩ | ⟨_, hsub, hstep, e⟩ | ⟨_, hsub, hstep, e⟩
  · exact absurd hidle hrun
  · exact .inl ⟨_, if_pos hsub, e⟩
  · exact .inl ⟨(s.seqStep + 1, 0), by simp [nextPosition, hsub, hstep], e⟩
  · exact .inr ⟨by simp [nextPosition, hsub, hstep], e⟩

/-- The computations that deliver a result stand at the last position of their operation. -/
theorem nextPosition_of_result (op : SeqOp) (step : BitVec 4) (sub : BitVec 2)
    (h : microAt op step sub = .combineRaw ∨ microAt op step sub = .convert) : nextPosition op step sub = none := by
  have hlegal : microAt op step sub ≠ .hold := by rcases h with h | h <;> simp [h]
  revert h
  rcases legal_positions op step sub hlegal with ⟨rfl, rfl, rfl | rfl | rfl | rfl⟩ | ⟨rfl, rfl, rfl⟩ | ⟨rfl, rfl, rfl⟩ |
      ⟨rfl, rfl, rfl⟩ | ⟨rfl, rfl, rfl⟩ | ⟨rfl, rfl, rfl | rfl | rfl | rfl | rfl⟩ | ⟨rfl, rfl, rfl | rfl | rfl | rfl⟩ |
      ⟨rfl, ⟨rfl | rfl, rfl | rfl | rfl | rfl⟩ | ⟨rfl | rfl | rfl | rfl, rfl | rfl⟩ | ⟨rfl | rfl, rfl⟩⟩ <;> decide

/-! ## One micro-step -/

/-- `u` is at the control position of `s`, with the same records. -/
structure SamePlace (s u : State) : Prop where
  seqOp : u.seqOp = s.seqOp
  seqStep : u.seqStep = s.seqStep
  seqSub : u.seqSub = s.seqSub
  records : u.records = s.records

/-- What a micro-step of a running operation can come to: nothing while a call is not answered, an error without a wait,
the wait of its position and the next position, or the wait of the last position and completion. -/
inductive TickWaits (s : State) : State → Prop
  | held : TickWaits s s
  | failed {t : State} {c : Completion} (idle : t.seqOp = .idle) (records : t.records = s.records ++ [c])
      (status : c.status ≠ .ok) (waits : AddsWaits s t 0) : TickWaits s t
  | moved {t : State} {p : BitVec 4 × BitVec 2} (next : nextPosition s.seqOp s.seqStep s.seqSub = some p)
      (seqOp : t.seqOp = s.seqOp) (position : (t.seqStep, t.seqSub) = p) (records : t.records = s.records)
      (waits : AddsWaits s t (waitOf s.micro)) : TickWaits s t
  | completed {t : State} (last : nextPosition s.seqOp s.seqStep s.seqSub = none) (idle : t.seqOp = .idle)
      (waits : AddsWaits s t (waitOf s.micro)) : TickWaits s t

section
variable {s u : State}

theorem tickWaits_raiseError {status : Status} (hrun : s.seqOp ≠ .idle) (place : SamePlace s u)
    (waits : AddsWaits s u 0) (hstatus : status ≠ .ok) (failStep : BitVec 4) :
    TickWaits s (u.raiseError status failStep) := by
  have running : u.seqOp ≠ .idle := place.seqOp ▸ hrun
  rw [raiseError_running u status failStep running]
  exact .failed (c := errorRecord u status failStep) rfl (by rw [State.deliver_records, place.records]) hstatus
    (addsWaits_congr rfl rfl waits)

theorem transportStatus_ne_ok (op : SeqOp) : transportStatus op ≠ .ok := by
  unfold transportStatus
  split <;> simp

theorem tickWaits_raiseTransport (hrun : s.seqOp ≠ .idle) (place : SamePlace s u) (waits : AddsWaits s u 0) :
    TickWaits s u.raiseTransport :=
  tickWaits_raiseError hrun place waits (transportStatus_ne_ok _) _

theorem tickWaits_advance (hrun : s.seqOp ≠ .idle) (place : SamePlace s u) (waits : AddsWaits s u (waitOf s.micro)) :
    TickWaits s u.advance := by
  obtain ⟨hop, hstep, hsub, hrec⟩ := place
  rcases advance_nextPosition u (hop ▸ hrun) with ⟨p, hnext, e⟩ | ⟨hlast, e⟩ <;> rw [e]
  · exact .moved (by rwa [hop, hstep, hsub] at hnext) hop rfl hrec (addsWaits_congr rfl rfl waits)
  · exact .completed (by rwa [hop, hstep, hsub] at hlast) rfl (addsWaits_congr rfl rfl waits)

/-- A micro-step that waits for nothing and goes on from a state with the same trace. -/
theorem tickWaits_advance_silent (hrun : s.seqOp ≠ .idle) (place : SamePlace s u) (trace : u.trace = s.trace)
    (nowait : waitOf s.micro = 0) : TickWaits s u.advance :=
  tickWaits_advance hrun place (nowait ▸ addsWaits_zero_of_trace trace)

/-- A call that failed: its event is marked, and no wait follows. -/
theorem tickWaits_call_failed (hrun : s.seqOp ≠ .idle) {e : Event} (he : e.minMicros = 0) :
    TickWaits s (s.dropAnswer.emit e).raiseTransport :=
  tickWaits_raiseTransport hrun ⟨rfl, rfl, rfl, rfl⟩ (he ▸ addsWaits_of_emit e rfl)

/-- A call that completed: its event takes no time by the waits. -/
theorem tickWaits_call_done (hrun : s.seqOp ≠ .idle) (place : SamePlace s u) {e : Event}
    (trace : u.trace = s.trace ++ [e]) (he : e.minMicros = 0) (nowait : waitOf s.micro = 0) : TickWaits s u.advance :=
  tickWaits_advance hrun place (nowait ▸ he ▸ addsWaits_of_emit e trace)

end

section
variable {s : State}

theorem tickWaits_issueSel (hrun : s.seqOp ≠ .idle) (nowait : waitOf s.micro = 0) (reg : Byte) :
    TickWaits s (issueSel reg s) := by
  rcases issueSel_cases reg s with ⟨_, e⟩ | ⟨_, _, e⟩ | ⟨_, _, _, e⟩ <;> rw [e]
  · exact .held
  · exact tickWaits_call_failed hrun rfl
  · exact tickWaits_call_done hrun ⟨rfl, rfl, rfl, rfl⟩ rfl rfl nowait

theorem tickWaits_issueRd (hrun : s.seqOp ≠ .idle) (nowait : waitOf s.micro = 0) (reg : Byte) :
    TickWaits s (issueRd reg s) := by
  rcases issueRd_cases reg s with ⟨_, e⟩ | e | ⟨_, _, _, _, _, e⟩ <;> rw [e]
  · exact .held
  · exact tickWaits_call_failed hrun rfl
  · exact tickWaits_call_done hrun ⟨rfl, rfl, rfl, rfl⟩ rfl rfl nowait

theorem tickWaits_issueWr (hrun : s.seqOp ≠ .idle) (nowait : waitOf s.micro = 0) (cmd p0 p1 : Byte) :
    TickWaits s (issueWr cmd p0 p1 s) := by
  rcases issueWr_cases cmd p0 p1 s with ⟨_, e⟩ | ⟨_, _, e⟩ | ⟨_, _, _, e⟩ <;> rw [e]
  · exact .held
  · exact tickWaits_call_failed hrun rfl
  · exact tickWaits_call_done hrun ⟨rfl, rfl, rfl, rfl⟩ rfl rfl nowait

theorem tickWaits_issueFetch (hrun : s.seqOp ≠ .idle) (nowait : waitOf s.micro = 0) : TickWaits s (issueFetch s) := by
  rcases issueFetch_cases s with ⟨_, e⟩ | e | ⟨_, _, _, _, _, _, e⟩ <;> rw [e]
  · exact .held
  · exact tickWaits_call_failed hrun rfl
  · exact tickWaits_call_done hrun ⟨rfl, rfl, rfl, rfl⟩ rfl rfl nowait

theorem tickWaits_issuePin (hrun : s.seqOp ≠ .idle) (nowait : waitOf s.micro = 0) (level : BitVec 1) :
    TickWaits s (issuePin level s) := by
  rcases issuePin_cases level s with ⟨_, e⟩ | ⟨_, _, e⟩ | ⟨_, _, _, e⟩ <;> rw [e]
  · exact .held
  · exact tickWaits_call_failed hrun rfl
  · exact tickWaits_call_done hrun ⟨rfl, rfl, rfl, rfl⟩ rfl rfl nowait

theorem tickWaits_captureZero (hrun : s.seqOp ≠ .idle) (nowait : waitOf s.micro = 0) : TickWaits s (captureZero s) := by
  unfold captureZero
  split
  · exact .held
  · exact tickWaits_advance_silent hrun ⟨rfl, rfl, rfl, rfl⟩ rfl nowait

theorem tickWaits_captureLoad (hrun : s.seqOp ≠ .idle) (nowait : waitOf s.micro = 0) : TickWaits s (captureLoad s) := by
  unfold captureLoad
  split
  · exact .held
  · exact tickWaits_advance_silent hrun ⟨rfl, rfl, rfl, rfl⟩ rfl nowait

theorem tickWaits_knownLoad (hrun : s.seqOp ≠ .idle) (nowait : waitOf s.micro = 0) : TickWaits s (knownLoad s) := by
  unfold knownLoad
  split
  · exact tickWaits_raiseError hrun ⟨rfl, rfl, rfl, rfl⟩ (addsWaits_zero_of_trace rfl) (by simp) 0
  · exact tickWaits_advance_silent hrun ⟨rfl, rfl, rfl, rfl⟩ rfl nowait

/-- A computation that completes the operation with its result, at the last position. -/
theorem tickWaits_complete (hm : s.micro = .combineRaw ∨ s.micro = .convert) (raw : Option U16)
    (num : Option Sys2Proof.Num) : TickWaits s (s.complete raw num) := by
  have nowait : waitOf s.micro = 0 := by rcases hm with h | h <;> rw [h] <;> rfl
  exact .completed (nextPosition_of_result _ _ _ hm) rfl (nowait ▸ addsWaits_zero_of_trace rfl)

end

/-- Every micro-step of a running operation is one of the four, whatever the transport and the capture source answer. -/
theorem tickWaits_tick (s : State) (hrun : s.seqOp ≠ .idle) : TickWaits s (tick s) := by
  have wait_eq : ∀ m, s.micro = m → waitOf s.micro = waitOf m := fun _ h => by rw [h]
  unfold tick
  cases hm : s.micro with
  | sel => exact tickWaits_issueSel hrun (wait_eq _ hm) _
  | rd => exact tickWaits_issueRd hrun (wait_eq _ hm) _
  | enterCm => exact tickWaits_issueWr hrun (wait_eq _ hm) _ _ _
  | reqWord2 => exact tickWaits_issueWr hrun (wait_eq _ hm) _ _ _
  | fetchWord => exact tickWaits_issueFetch hrun (wait_eq _ hm)
  | writeWord2 => exact tickWaits_issueWr hrun (wait_eq _ hm) _ _ _
  | exitCm => exact tickWaits_issueWr hrun (wait_eq _ hm) _ _ _
  | pin level => exact tickWaits_issuePin hrun (wait_eq _ hm) level
  | wait d =>
    exact tickWaits_advance hrun ⟨rfl, rfl, rfl, rfl⟩ (wait_eq _ hm ▸ addsWaits_of_emit (.wait d) rfl)
  | combineRaw => exact tickWaits_complete (.inl hm) _ _
  | combineForce => exact tickWaits_advance_silent hrun ⟨rfl, rfl, rfl, rfl⟩ rfl (wait_eq _ hm)
  | convert => exact tickWaits_complete (.inr hm) _ _
  | zeroCapture => exact tickWaits_advance_silent hrun ⟨rfl, rfl, rfl, rfl⟩ rfl (wait_eq _ hm)
  | knownLoad => exact tickWaits_knownLoad hrun (wait_eq _ hm)
  | setManual => exact tickWaits_advance_silent hrun ⟨rfl, rfl, rfl, rfl⟩ rfl (wait_eq _ hm)
  | captureZero => exact tickWaits_captureZero hrun (wait_eq _ hm)
  | captureLoad => exact tickWaits_captureLoad hrun (wait_eq _ hm)
  | patch => exact tickWaits_advance_silent hrun ⟨rfl, rfl, rfl, rfl⟩ rfl (wait_eq _ hm)
  | hold => exact .held

/-! ## A whole run -/

/-- From `s` to `t` the block waits for at most `total`, and for exactly `total` if an operation completed. -/
def RunWaits (s t : State) (total : Nat) : Prop :=
  ∃ m ≤ total, AddsWaits s t m ∧ ∀ c, t.records = s.records ++ [c] → c.status = .ok → m = total

theorem runWaits_self (s : State) (total : Nat) : RunWaits s s total :=
  ⟨0, Nat.zero_le _, addsWaits_zero_of_trace rfl, fun c hc => absurd hc (by simp)⟩

theorem runSeq_of_tick_eq (n : Nat) {s : State} (h : tick s = s) : runSeq n s = s := by
  induction n with
  | zero => rfl
  | succ n ih => rw [runSeq_succ, h, ih]

/-- A run of `n` micro-steps waits for what stands at the next `n` positions. -/
theorem runSeq_waits (n : Nat) (s : State) (hrun : s.seqOp ≠ .idle) :
    RunWaits s (runSeq n s) (waitsAhead s.seqOp n s.seqStep s.seqSub) := by
  induction n generalizing s with
  | zero => exact runWaits_self s _
  | succ n ih =>
    rw [runSeq_succ]
    generalize ht : tick s = t
    cases ht ▸ tickWaits_tick s hrun with
    | held => rw [runSeq_of_tick_eq n ht]; exact runWaits_self s _
    | @failed _ c₀ idle records status waits =>
      rw [runSeq_idle n t idle]
      refine ⟨0, Nat.zero_le _, waits, fun c hc hok => absurd hok ?_⟩
      obtain rfl : c₀ = c := by simpa [records] using hc
      exact status
    | moved next seqOp position records waits =>
      obtain ⟨m, hle, hm, hok⟩ := ih t (seqOp ▸ hrun)
      subst position
      have ahead : waitsAhead s.seqOp (n + 1) s.seqStep s.seqSub =
          waitOf s.micro + waitsAhead t.seqOp n t.seqStep t.seqSub := by
        simp [waitsAhead, next, seqOp, State.micro]
      rw [ahead]
      exact ⟨_, Nat.add_le_add_left hle _, addsWaits_trans waits hm,
        fun c hc h => congrArg _ (hok c (hc.trans (by rw [records])) h)⟩
    | completed last idle waits =>
      have ahead : waitsAhead s.seqOp (n + 1) s.seqStep s.seqSub = waitOf s.micro := by
        simp [waitsAhead, last, State.micro]
      rw [runSeq_idle n t idle, ahead]
      exact ⟨_, le_rfl, waits, fun _ _ _ => rfl⟩

/-! ## Whole operations -/

/-- The waits of all the positions of an operation. -/
def totalWaits (op : SeqOp) : Nat :=
  waitsAhead op (seqLength op) 1 0

/-- An accepted operation waits for its total when it completes and for no more on any path. -/
theorem operate_waits {op : SeqOp} {latched s t : State} (hop : op ≠ .idle) (hready : s.busy = false)
    (hexec : (.next (operate op latched s) : Host.Outcome State Fault Refusal) = .next t)
    (htrace : latched.trace = s.trace) (hrecords : latched.records = s.records) :
    RunWaits s t (totalWaits op) := by
  cases hexec
  rw [operate_ready op latched s hready]
  obtain ⟨m, hle, hm, hok⟩ := runSeq_waits (seqLength op) (latched.start op) hop
  exact ⟨m, hle, addsWaits_congr (s := latched.start op) htrace.symm rfl hm,
    fun c hc => hok c (by simpa [hrecords] using hc)⟩

theorem addsWaits_of_completed {s t : State} {total : Nat} {c : Completion} (h : RunWaits s t total)
    (hc : t.records = s.records ++ [c]) (hok : c.status = .ok) : AddsWaits s t total := by
  obtain ⟨m, _, hm, eq⟩ := h
  exact eq c hc hok ▸ hm

theorem addsWaits_zero_of_total {s t : State} (h : RunWaits s t 0) : AddsWaits s t 0 := by
  obtain ⟨m, hle, hm, _⟩ := h
  exact Nat.le_zero.mp hle ▸ hm

/-- The waits at the eighteen positions of CHADDR: two power cycles and four commands (42_address_change.md R132). -/
theorem totalWaits_chaddr_eq_sum : totalWaits .chaddr =
    [0, tOffMicros, 0, tSettleMicros, 0, tCmdMicros, 0, tCmdMicros, 0, 0, 0, tCmdMicros, 0, tCmdMicros,
      0, tOffMicros, 0, tSettleMicros].sum := rfl

/-- With the nominal durations: 200 ms, twice the settle time and 40 ms (70_reset_and_hazards.md R200). -/
theorem totalWaits_chaddr : totalWaits .chaddr = 240000 + 2 * tSettleMicros := by
  have off : tOffMicros = 100000 := rfl
  have cmd : tCmdMicros = 10000 := rfl
  simp only [totalWaits_chaddr_eq_sum, off, cmd, List.sum_cons, List.sum_nil]
  ring

theorem totalWaits_rdraw : totalWaits .rdraw = 10000 := rfl

theorem totalWaits_rdforce : totalWaits .rdforce = 10000 := rfl

/-! ## The settle time -/

theorem tSettleMicros_pos : 0 < tSettleMicros :=
  Nat.succ_pos _

theorem tWindowMicros_eq : tWindowMicros = 6000 := rfl

theorem tSettleMicros_lt : tSettleMicros < 6000 := by
  have := Nat.mod_lt settleSlack (show 0 < tWindowMicros - 1 by decide)
  have := tWindowMicros_eq
  unfold tSettleMicros
  omega

/-! ## The obligation -/

/-- The operations on registers and samples alone make no wait on any path. -/
theorem addsWaits_of_calibration {s t : State} (hready : s.busy = false)
    (h : (∃ raw, exec (.zcap raw) s = .next t) ∨ (∃ raw force, exec (.calld raw force) s = .next t) ∨
      (∃ raw, exec (.fconv raw) s = .next t) ∨ (∃ z k, exec (.setcal z k) s = .next t) ∨ exec .calib s = .next t) :
    AddsWaits s t 0 := by
  rcases h with ⟨_, h⟩ | ⟨_, _, h⟩ | ⟨_, h⟩ | ⟨_, _, h⟩ | h
  · exact addsWaits_zero_of_total (operate_waits (op := .zcap) (by decide) hready h rfl rfl)
  · exact addsWaits_zero_of_total (operate_waits (op := .calld) (by decide) hready h rfl rfl)
  · exact addsWaits_zero_of_total (operate_waits (op := .fconv) (by decide) hready h rfl rfl)
  · exact addsWaits_zero_of_total (operate_waits (op := .setcal) (by decide) hready h rfl rfl)
  · exact addsWaits_zero_of_total (operate_waits (op := .calib) (by decide) hready h rfl rfl)

/-- Settles O57: the waits of a run are those of the control positions it passes. -/
theorem minimumDurations : Obligations.MinimumDurations := by
  have settle_pos := tSettleMicros_pos
  have settle_lt := tSettleMicros_lt
  refine ⟨fun s t a c hready hexec hc hok => ?_, ⟨by omega, by omega⟩, fun s t reg c hready hexec hc hok => ?_,
    fun s t c hready hexec hc hok => ?_, fun s t hready hexec => addsWaits_of_calibration hready hexec,
    settle_pos, tWindowMicros_eq ▸ settle_lt, tWindowMicros_eq⟩
  · have waits := operate_waits (op := .chaddr) (by decide) hready hexec rfl rfl
    rw [totalWaits_chaddr] at waits
    exact addsWaits_of_completed waits hc hok
  · have waits := operate_waits (op := .rdraw) (by decide) hready hexec rfl rfl
    rw [totalWaits_rdraw] at waits
    exact addsWaits_of_completed waits hc hok
  · have waits := operate_waits (op := .rdforce) (by decide) hready hexec rfl rfl
    rw [totalWaits_rdforce] at waits
    exact addsWaits_of_completed waits hc hok

end Sys2Proof.Durations
end

section
/-! PROOF of what every step keeps. One micro-step is inverted once; the invariant of the sequencer, the legality of the
records, the frames and the ends of the operations follow from that inversion and the table of control positions. -/

namespace Sys2Proof.Sequencing

open Sys2Proof.Machine Sys2Proof.Config Sys2Proof.Claims Sys2Proof.Durations

/-! ## The table of control positions -/

/-- The control positions of the eight operations, each operation's in the order in which it takes them. -/
def positions : List (SeqOp × BitVec 4 × BitVec 2) :=
  [(.rdraw, 1, 0), (.rdraw, 2, 0), (.rdraw, 3, 0), (.rdraw, 4, 0),
   (.zcap, 1, 0), (.calld, 1, 0), (.fconv, 1, 0), (.setcal, 1, 0),
   (.chaddr, 1, 0), (.chaddr, 1, 1), (.chaddr, 1, 2), (.chaddr, 1, 3), (.chaddr, 2, 0), (.chaddr, 2, 1),
   (.chaddr, 3, 0), (.chaddr, 3, 1), (.chaddr, 4, 0), (.chaddr, 5, 0), (.chaddr, 6, 0), (.chaddr, 6, 1),
   (.chaddr, 7, 0), (.chaddr, 7, 1), (.chaddr, 8, 0), (.chaddr, 8, 1), (.chaddr, 8, 2), (.chaddr, 8, 3),
   (.rdforce, 1, 0), (.rdforce, 2, 0), (.rdforce, 3, 0), (.rdforce, 4, 0), (.rdforce, 5, 0),
   (.calib, 1, 0), (.calib, 2, 0), (.calib, 3, 0), (.calib, 4, 0)]

section
variable {op : SeqOp} {step : BitVec 4} {sub : BitVec 2} {p : BitVec 4 × BitVec 2}

/-- The positions where the sequencer does something are those of the table. -/
theorem mem_positions (legal : microAt op step sub ≠ .hold) : (op, step, sub) ∈ positions := by
  rcases legal_positions op step sub legal with ⟨rfl, rfl, rfl | rfl | rfl | rfl⟩ | ⟨rfl, rfl, rfl⟩ | ⟨rfl, rfl, rfl⟩ |
      ⟨rfl, rfl, rfl⟩ | ⟨rfl, rfl, rfl⟩ | ⟨rfl, rfl, rfl | rfl | rfl | rfl | rfl⟩ | ⟨rfl, rfl, rfl | rfl | rfl | rfl⟩ |
      ⟨rfl, ⟨rfl | rfl, rfl | rfl | rfl | rfl⟩ | ⟨rfl | rfl | rfl | rfl, rfl | rfl⟩ | ⟨rfl | rfl, rfl⟩⟩ <;> decide

/-- What the table shows of every position holds wherever the sequencer does something. -/
theorem forall_positions {P : SeqOp → BitVec 4 → BitVec 2 → Prop} (table : ∀ q ∈ positions, P q.1 q.2.1 q.2.2)
    (legal : microAt op step sub ≠ .hold) : P op step sub :=
  table _ (mem_positions legal)

theorem nextPosition_legal (legal : microAt op step sub ≠ .hold) (next : nextPosition op step sub = some p) :
    microAt op p.1 p.2 ≠ .hold :=
  forall_positions (P := fun op step sub => ∀ p ∈ nextPosition op step sub, microAt op p.1 p.2 ≠ .hold)
    (by decide) legal p next

/-- `SEQ_STEP` never goes back. -/
theorem step_le_next (legal : microAt op step sub ≠ .hold) (next : nextPosition op step sub = some p) :
    step.toNat ≤ p.1.toNat :=
  forall_positions (P := fun op step sub => ∀ p ∈ nextPosition op step sub, step.toNat ≤ p.1.toNat)
    (by decide) legal p next

/-- The power-control line is driven by CHADDR alone, and the next position expects the level driven. -/
theorem pin_position {level : BitVec 1} (hm : microAt op step sub = .pin level) :
    op = .chaddr ∧ ∀ p ∈ nextPosition op step sub, expectedPwr p.1 p.2 = some level :=
  forall_positions (P := fun op step sub => ∀ level, microAt op step sub = .pin level →
      op = .chaddr ∧ ∀ p ∈ nextPosition op step sub, expectedPwr p.1 p.2 = some level)
    (by decide) (by simp [hm]) level hm

/-- Between two drives of the line the level expected of it stays. -/
theorem expectedPwr_next (legal : microAt op step sub ≠ .hold) (next : nextPosition op step sub = some p)
    (hop : op = .chaddr) (quiet : ∀ level, microAt op step sub ≠ .pin level) :
    expectedPwr p.1 p.2 = expectedPwr step sub :=
  forall_positions (P := fun op step sub => op = .chaddr → (∀ level, microAt op step sub ≠ .pin level) →
      ∀ p ∈ nextPosition op step sub, expectedPwr p.1 p.2 = expectedPwr step sub)
    (by decide) legal hop quiet p next

/-- The fetch is step 4 of CHADDR, and the patch is next. -/
theorem fetch_position (hm : microAt op step sub = .fetchWord) :
    op = .chaddr ∧ step = 4 ∧ nextPosition op step sub = some (5, 0) :=
  forall_positions (P := fun op step sub => microAt op step sub = .fetchWord →
      op = .chaddr ∧ step = 4 ∧ nextPosition op step sub = some (5, 0))
    (by decide) (by simp [hm]) hm

/-- Only the fetch leads into the steps after it. -/
theorem fetched_of_next (legal : microAt op step sub ≠ .hold) (next : nextPosition op step sub = some p)
    (hop : op = .chaddr) (other : microAt op step sub ≠ .fetchWord) (late : 5 ≤ p.1.toNat) : 5 ≤ step.toNat :=
  forall_positions (P := fun op step sub => op = .chaddr → microAt op step sub ≠ .fetchWord →
      ∀ p ∈ nextPosition op step sub, 5 ≤ p.1.toNat → 5 ≤ step.toNat)
    (by decide) legal hop other p next late

/-- Only the patch leads into the steps after it. -/
theorem patched_of_next (legal : microAt op step sub ≠ .hold) (next : nextPosition op step sub = some p)
    (hop : op = .chaddr) (other : microAt op step sub ≠ .patch) (late : 6 ≤ p.1.toNat) : 6 ≤ step.toNat :=
  forall_positions (P := fun op step sub => op = .chaddr → microAt op step sub ≠ .patch →
      ∀ p ∈ nextPosition op step sub, 6 ≤ p.1.toNat → 6 ≤ step.toNat)
    (by decide) legal hop other p next late

/-- RDFORCE comes to its last step by passing on the reading. -/
theorem combineForce_of_next (legal : microAt op step sub ≠ .hold) (next : nextPosition op step sub = some p)
    (hop : op = .rdforce) (last : p.1 = 5) : microAt op step sub = .combineForce :=
  forall_positions (P := fun op step sub => op = .rdforce → ∀ p ∈ nextPosition op step sub, p.1 = 5 →
      microAt op step sub = .combineForce)
    (by decide) legal hop p next last

/-- CALIB comes to its third step by the zero capture. -/
theorem zeroCapture_of_next (legal : microAt op step sub ≠ .hold) (next : nextPosition op step sub = some p)
    (hop : op = .calib) (third : p.1 = 3) : microAt op step sub = .zeroCapture :=
  forall_positions (P := fun op step sub => op = .calib → ∀ p ∈ nextPosition op step sub, p.1 = 3 →
      microAt op step sub = .zeroCapture)
    (by decide) legal hop p next third

/-- The operations that write the calibration registers. -/
theorem calibration_position (legal : microAt op step sub ≠ .hold) :
    (microAt op step sub = .zeroCapture → op = .zcap ∨ op = .calib) ∧
    (microAt op step sub = .setManual → op = .setcal) ∧
    (microAt op step sub = .knownLoad → op = .calld ∨ op = .calib) :=
  forall_positions (P := fun op step sub =>
      (microAt op step sub = .zeroCapture → op = .zcap ∨ op = .calib) ∧
      (microAt op step sub = .setManual → op = .setcal) ∧
      (microAt op step sub = .knownLoad → op = .calld ∨ op = .calib))
    (by decide) legal

/-- CHADDR makes no reading, no conversion and no calibration. -/
theorem op_ne_chaddr_of_result (hm : microAt op step sub = .combineRaw ∨ microAt op step sub = .convert ∨
    microAt op step sub = .knownLoad) : op ≠ .chaddr :=
  forall_positions (P := fun op step sub => microAt op step sub = .combineRaw ∨ microAt op step sub = .convert ∨
      microAt op step sub = .knownLoad → op ≠ .chaddr)
    (by decide) (by rcases hm with h | h | h <;> simp [h]) hm

/-- Step 8 is a step of CHADDR alone. -/
theorem op_eq_chaddr_of_step_eight (legal : microAt op step sub ≠ .hold) (hstep : step = 8) : op = .chaddr :=
  forall_positions (P := fun op step _ => step = 8 → op = .chaddr) (by decide) legal hstep

/-- Where the sequencer goes on from a wait: nowhere after the last wait of CHADDR, to the rising edge inside a power
cycle, and to the next step after every other wait. -/
theorem nextPosition_of_wait {d : Delay} (hm : microAt op step sub = .wait d) :
    nextPosition op step sub =
      if step = 8 ∧ sub = 3 then none
      else some (if op = .chaddr ∧ (step = 1 ∨ step = 8) ∧ sub = 1 then step else step + 1,
        if op = .chaddr ∧ (step = 1 ∨ step = 8) ∧ sub = 1 then 2 else 0) :=
  forall_positions (P := fun op step sub => ∀ d ∈ [Delay.tSel, .tOff, .tSettle, .tCmd], microAt op step sub = .wait d →
      nextPosition op step sub =
        if step = 8 ∧ sub = 3 then none
        else some (if op = .chaddr ∧ (step = 1 ∨ step = 8) ∧ sub = 1 then step else step + 1,
          if op = .chaddr ∧ (step = 1 ∨ step = 8) ∧ sub = 1 then 2 else 0))
    (by decide) (by simp [hm]) d (by cases d <;> simp) hm

end

/-! ## One micro-step -/

/-- How many answers of the transport a micro-step asks for. -/
def callsOf : Micro → Nat
  | .sel | .rd | .enterCm | .reqWord2 | .fetchWord | .writeWord2 | .exitCm | .pin _ => 1
  | _ => 0

/-- How many samples of the capture source a micro-step asks for. -/
def samplesOf : Micro → Nat
  | .captureZero | .captureLoad => 1
  | _ => 0

theorem legal_of_call {m : Micro} (call : callsOf m = 1) : m ≠ .hold := by
  rintro rfl
  simp [callsOf] at call

/-- The state that a micro-step which meets no error leaves to the advance: `e` is its event, `reply` the bytes read and
`x` the sample captured, where it has one. The two computations that deliver a result do not advance. -/
def performed (m : Micro) (e : Event) (reply : List Byte) (x : Sample) (s : State) : State :=
  match m with
  | .sel | .enterCm | .reqWord2 | .writeWord2 | .exitCm => s.dropAnswer.emit e
  | .rd => (s.dropAnswer.emit e).latchRaw reply
  | .fetchWord => (s.dropAnswer.emit e).latchFetch reply
  | .pin level => (s.dropAnswer.emit e).setPwr level
  | .wait _ => s.emit e
  | .combineForce => s.passReading
  | .zeroCapture => s.zeroCapture
  | .knownLoad => s.fitSensitivity
  | .setManual => s.setManual
  | .captureZero => s.dropSample.latchSample x.raw s.tNum
  | .captureLoad => s.dropSample.latchSample x.raw x.num
  | .patch => s.patch
  | .combineRaw | .convert | .hold => s

section
variable (m : Micro) (e : Event) (reply : List Byte) (x : Sample) (s : State)

/-! What `performed` leaves unchanged whatever the micro-step is. -/

@[simp] theorem performed_devAddr : (performed m e reply x s).devAddr = s.devAddr := by cases m <;> rfl
@[simp] theorem performed_busy : (performed m e reply x s).busy = s.busy := by cases m <;> rfl
@[simp] theorem performed_seqOp : (performed m e reply x s).seqOp = s.seqOp := by cases m <;> rfl
@[simp] theorem performed_seqStep : (performed m e reply x s).seqStep = s.seqStep := by cases m <;> rfl
@[simp] theorem performed_seqSub : (performed m e reply x s).seqSub = s.seqSub := by cases m <;> rfl
@[simp] theorem performed_tReg : (performed m e reply x s).tReg = s.tReg := by cases m <;> rfl
@[simp] theorem performed_tOld : (performed m e reply x s).tOld = s.tOld := by cases m <;> rfl
@[simp] theorem performed_tNew : (performed m e reply x s).tNew = s.tNew := by cases m <;> rfl
@[simp] theorem performed_records : (performed m e reply x s).records = s.records := by cases m <;> rfl
@[simp] theorem performed_commands : (performed m e reply x s).commands = s.commands := by cases m <;> rfl

/-! Which micro-steps write the other registers. -/

variable {m}

theorem performed_pwr (quiet : ∀ level, m ≠ .pin level) : (performed m e reply x s).pwr = s.pwr := by
  cases m with
  | pin level => exact absurd rfl (quiet level)
  | _ => rfl

theorem performed_zeroOffset (hz : m ≠ .zeroCapture) (hs : m ≠ .setManual) :
    (performed m e reply x s).zeroOffset = s.zeroOffset := by
  cases m with
  | zeroCapture => exact absurd rfl hz
  | setManual => exact absurd rfl hs
  | _ => rfl

theorem performed_sens (hk : m ≠ .knownLoad) (hs : m ≠ .setManual) : (performed m e reply x s).sens = s.sens := by
  cases m with
  | knownLoad => exact absurd rfl hk
  | setManual => exact absurd rfl hs
  | _ => rfl

theorem performed_fetchLatches (h : m ≠ .fetchWord) :
    (performed m e reply x s).f0 = s.f0 ∧ (performed m e reply x s).f2 = s.f2 ∧
      (performed m e reply x s).word = s.word ∧ (performed m e reply x s).wAck = s.wAck := by
  cases m with
  | fetchWord => exact absurd rfl h
  | _ => exact ⟨rfl, rfl, rfl, rfl⟩

theorem performed_newWord (h : m ≠ .patch) : (performed m e reply x s).newWord = s.newWord := by
  cases m with
  | patch => exact absurd rfl h
  | _ => rfl

variable (m)

/-! What `performed` uses up and adds. -/

theorem performed_answers_length : (performed m e reply x s).answers.length = s.answers.length - callsOf m := by
  cases m <;> simp [performed, callsOf]

theorem performed_samples_length : (performed m e reply x s).samples.length = s.samples.length - samplesOf m := by
  cases m <;> simp [performed, samplesOf]

theorem extends_performed : Extends s (performed m e reply x s) where
  devAddr := performed_devAddr m e reply x s
  commands := performed_commands m e reply x s
  trace := by cases m <;> simp [performed]
  records := by rw [performed_records]

end

/-- What a micro-step can come to, whatever the transport and the capture source answer: nothing while a call or a
capture is not answered (60_exceptions.md R170) and at a position that is no step of the operation, an error of the
transport, the degenerate calibration, a result, or the advance. -/
inductive TickEffect (s : State) : State → Prop
  | unanswered (short : s.answers.length < callsOf s.micro ∨ s.samples.length < samplesOf s.micro) : TickEffect s s
  | hold (hm : s.micro = .hold) : TickEffect s s
  | failed (call : callsOf s.micro = 1) (e : Event) : TickEffect s (s.dropAnswer.emit e).raiseTransport
  | degenerate (hm : s.micro = .knownLoad) : TickEffect s s.raiseDegenerate
  | combined (hm : s.micro = .combineRaw) (raw : U16) : TickEffect s (s.complete (some raw) none)
  | converted (hm : s.micro = .convert) (force : Sys2Proof.Num) : TickEffect s (s.complete none (some force))
  | advanced (legal : s.micro ≠ .hold) (e : Event) (reply : List Byte) (x : Sample) :
      TickEffect s (performed s.micro e reply x s).advance

section
variable {s t : State} {m : Micro}

/-- A call that is not answered, fails, or completes with its latches written. -/
theorem tickEffect_call (hm : s.micro = m) (call : callsOf m = 1)
    (outcome : (s.answers = [] ∧ t = s) ∨ (∃ e, t = (s.dropAnswer.emit e).raiseTransport) ∨
      (∃ e reply, ∀ x, t = (performed m e reply x s).advance)) : TickEffect s t := by
  subst hm
  rcases outcome with ⟨h, rfl⟩ | ⟨e, rfl⟩ | ⟨e, reply, h⟩
  · exact .unanswered (.inl (by simp [h, call]))
  · exact .failed call e
  · rw [h ⟨0, toNum 0⟩]
    exact .advanced (legal_of_call call) e reply _

/-- A computation needs no event, no reply and no sample. -/
theorem tickEffect_compute (hm : s.micro = m) (legal : m ≠ .hold)
    (h : ∀ e reply x, t = (performed m e reply x s).advance) : TickEffect s t := by
  subst hm
  rw [h (.wait .tSel) [] ⟨0, toNum 0⟩]
  exact .advanced legal _ _ _

theorem tickEffect_issueSel (hm : s.micro = .sel) (reg : Byte) : TickEffect s (issueSel reg s) := by
  refine tickEffect_call hm rfl ?_
  rcases issueSel_cases reg s with ⟨h, e⟩ | ⟨_, _, e⟩ | ⟨_, _, _, e⟩
  · exact .inl ⟨h, e⟩
  · exact .inr (.inl ⟨_, e⟩)
  · exact .inr (.inr ⟨_, [], fun _ => e⟩)

theorem tickEffect_issueRd (hm : s.micro = .rd) (reg : Byte) : TickEffect s (issueRd reg s) := by
  refine tickEffect_call hm rfl ?_
  rcases issueRd_cases reg s with ⟨h, e⟩ | e | ⟨_, _, _, _, _, e⟩
  · exact .inl ⟨h, e⟩
  · exact .inr (.inl ⟨_, e⟩)
  · exact .inr (.inr ⟨_, _, fun _ => e⟩)

theorem tickEffect_issueWr (hm : s.micro = m)
    (write : m = .enterCm ∨ m = .reqWord2 ∨ m = .writeWord2 ∨ m = .exitCm) (cmd p0 p1 : Byte) :
    TickEffect s (issueWr cmd p0 p1 s) := by
  refine tickEffect_call hm (by rcases write with rfl | rfl | rfl | rfl <;> rfl) ?_
  rcases issueWr_cases cmd p0 p1 s with ⟨h, e⟩ | ⟨_, _, e⟩ | ⟨_, _, _, e⟩
  · exact .inl ⟨h, e⟩
  · exact .inr (.inl ⟨_, e⟩)
  · refine .inr (.inr ⟨.wr s.tOld cmd p0 p1 .completed, [], fun _ => ?_⟩)
    rcases write with rfl | rfl | rfl | rfl <;> exact e

theorem tickEffect_issueFetch (hm : s.micro = .fetchWord) : TickEffect s (issueFetch s) := by
  refine tickEffect_call hm rfl ?_
  rcases issueFetch_cases s with ⟨h, e⟩ | e | ⟨_, _, _, _, _, _, e⟩
  · exact .inl ⟨h, e⟩
  · exact .inr (.inl ⟨_, e⟩)
  · exact .inr (.inr ⟨_, _, fun _ => e⟩)

theorem tickEffect_issuePin {level : BitVec 1} (hm : s.micro = .pin level) : TickEffect s (issuePin level s) := by
  refine tickEffect_call hm rfl ?_
  rcases issuePin_cases level s with ⟨h, e⟩ | ⟨_, _, e⟩ | ⟨_, _, _, e⟩
  · exact .inl ⟨h, e⟩
  · exact .inr (.inl ⟨_, e⟩)
  · exact .inr (.inr ⟨_, [], fun _ => e⟩)

theorem tickEffect_wait {d : Delay} (hm : s.micro = .wait d) : TickEffect s (waitFor d s).advance := by
  simpa [hm, performed, waitFor] using TickEffect.advanced (s := s) (by simp [hm]) (.wait d) [] ⟨0, toNum 0⟩

theorem tickEffect_captureZero (hm : s.micro = .captureZero) : TickEffect s (captureZero s) := by
  unfold captureZero
  split
  · next h => exact .unanswered (.inr (by simp [h, hm, samplesOf]))
  · next x _ _ => simpa [hm, performed] using TickEffect.advanced (s := s) (by simp [hm]) (.wait .tSel) [] x

theorem tickEffect_captureLoad (hm : s.micro = .captureLoad) : TickEffect s (captureLoad s) := by
  unfold captureLoad
  split
  · next h => exact .unanswered (.inr (by simp [h, hm, samplesOf]))
  · next x _ _ => simpa [hm, performed] using TickEffect.advanced (s := s) (by simp [hm]) (.wait .tSel) [] x

theorem tickEffect_knownLoad (hm : s.micro = .knownLoad) : TickEffect s (knownLoad s) := by
  unfold knownLoad
  split
  · exact .degenerate hm
  · exact tickEffect_compute hm (by simp) fun _ _ _ => rfl

end

/-- Every micro-step comes to one of these. -/
theorem tick_effect (s : State) : TickEffect s (tick s) := by
  unfold tick
  cases hm : s.micro with
  | sel => exact tickEffect_issueSel hm _
  | rd => exact tickEffect_issueRd hm _
  | enterCm => exact tickEffect_issueWr hm (by simp) _ _ _
  | reqWord2 => exact tickEffect_issueWr hm (by simp) _ _ _
  | fetchWord => exact tickEffect_issueFetch hm
  | writeWord2 => exact tickEffect_issueWr hm (by simp) _ _ _
  | exitCm => exact tickEffect_issueWr hm (by simp) _ _ _
  | pin level => exact tickEffect_issuePin hm
  | wait d => exact tickEffect_wait hm
  | combineRaw => exact .combined hm _
  | combineForce => exact tickEffect_compute hm (by simp) fun _ _ _ => rfl
  | convert => exact .converted hm _
  | zeroCapture => exact tickEffect_compute hm (by simp) fun _ _ _ => rfl
  | knownLoad => exact tickEffect_knownLoad hm
  | setManual => exact tickEffect_compute hm (by simp) fun _ _ _ => rfl
  | captureZero => exact tickEffect_captureZero hm
  | captureLoad => exact tickEffect_captureLoad hm
  | patch => exact tickEffect_compute hm (by simp) fun _ _ _ => rfl
  | hold => exact .hold hm

/-- With no operation running there is no step to take. -/
theorem micro_idle {s : State} (h : s.seqOp = .idle) : s.micro = .hold := by
  simp [State.micro, h, microAt]

theorem running_of_micro {s : State} {m : Micro} (hm : s.micro = m) (legal : m ≠ .hold) : s.seqOp ≠ .idle :=
  fun h => legal (hm ▸ micro_idle h)

/-- The advance of a performed micro-step goes to the next position, or completes the operation after the last one. -/
theorem advance_performed {s : State} (legal : s.micro ≠ .hold) (e : Event) (reply : List Byte) (x : Sample) :
    (∃ p, nextPosition s.seqOp s.seqStep s.seqSub = some p ∧
      (performed s.micro e reply x s).advance = (performed s.micro e reply x s).goTo p.1 p.2) ∨
    (nextPosition s.seqOp s.seqStep s.seqSub = none ∧
      (performed s.micro e reply x s).advance = (performed s.micro e reply x s).complete none none) := by
  simpa using advance_nextPosition (performed s.micro e reply x s) (by simpa using running_of_micro rfl legal)

theorem running_of_call {s : State} (call : callsOf s.micro = 1) : s.seqOp ≠ .idle :=
  running_of_micro rfl (legal_of_call call)

/-! ## Acceptance -/

/-- The eight operations: the row, its operation, and the state with the operands latched (10_state.md R24). -/
inductive Accepted (s : State) : Instr → SeqOp → State → Prop
  | rdraw (reg : Byte) : Accepted s (.rdraw reg) .rdraw (s.latchReg reg)
  | zcap (raw : U16) : Accepted s (.zcap raw) .zcap (s.latchRawOperand raw)
  | calld (raw : U16) (force : Sys2Proof.Num) : Accepted s (.calld raw force) .calld (s.latchOperands raw force)
  | fconv (raw : U16) : Accepted s (.fconv raw) .fconv (s.latchRawOperand raw)
  | setcal (z : U16) (k : Sys2Proof.Num) : Accepted s (.setcal z k) .setcal (s.latchOperands z k)
  | chaddr (a : U7) : Accepted s (.chaddr a) .chaddr (s.latchAddresses a)
  | rdforce : Accepted s .rdforce .rdforce (s.latchReg forceReg)
  | calib : Accepted s .calib .calib s

section
variable {s latched t : State} {i : Instr} {op : SeqOp}

theorem exec_accepted (h : Accepted s i op latched) : exec i s = .next (operate op latched s) := by
  cases h <;> rfl

theorem accepted_ne_idle (h : Accepted s i op latched) : op ≠ .idle := by
  cases h <;> decide

theorem extends_accepted (h : Accepted s i op latched) : Extends s (latched.start op) := by
  cases h <;> exact ⟨rfl, rfl, List.prefix_refl _, List.prefix_refl _⟩

theorem sameRegisters_accepted (h : Accepted s i op latched) : SameRegisters s (latched.start op) := by
  cases h <;> exact ⟨rfl, rfl, rfl, rfl⟩

theorem accepted_records (h : Accepted s i op latched) : (latched.start op).records = s.records := by
  cases h <;> rfl

end

/-- A reserved header leaves its record and nothing else (30_encoding.md R81, 60_exceptions.md R164). -/
theorem illegalCommand_ready {s : State} (hready : s.busy = false) :
    illegalCommand s = { s with records := s.records ++ [errRec .illegalCommand false 0] } := by
  simp [illegalCommand, hready, errRec]

theorem illegalCommand_busy {s : State} (hbusy : s.busy = true) : illegalCommand s = s := by
  simp [illegalCommand, hbusy]

/-- A header with one of bits 7 to 4 set is answered by IllegalCommand. -/
theorem exec_decodeReservedHigh (hdr : Byte) (s : State) :
    exec (decodeReservedHigh hdr) s = .next (illegalCommand s) := by
  unfold decodeReservedHigh
  split_ifs <;> rfl

/-- A command is one of the eight operations or is answered by IllegalCommand (30_encoding.md R79, R81, R88). -/
theorem exec_decodeHost_cases (c : HostCmd) (s : State) :
    exec (decodeHost c) s = .next (illegalCommand s) ∨ ∃ op latched, Accepted s (decodeHost c) op latched := by
  unfold decodeHost
  split
  · split
    case h_2 => exact .inr ⟨_, _, .rdraw _⟩
    case h_3 => exact .inr ⟨_, _, .zcap _⟩
    case h_4 => exact .inr ⟨_, _, .calld _ _⟩
    case h_5 => exact .inr ⟨_, _, .fconv _⟩
    case h_6 => exact .inr ⟨_, _, .setcal _ _⟩
    case h_7 => exact .inr ⟨_, _, .chaddr _⟩
    case h_8 => exact .inr ⟨_, _, .rdforce⟩
    case h_9 => exact .inr ⟨_, _, .calib⟩
    all_goals exact .inl rfl
  · exact .inl (exec_decodeReservedHigh c.hdr s)

/-- What a step can come to: a micro-step of a busy block; for an idle one nothing without a command, a reserved
header's record, or an operation accepted. -/
inductive StepEffect (s : State) : State → Prop
  | busy (hbusy : s.busy = true) : StepEffect s (tick s)
  | idle (hready : s.busy = false) : StepEffect s s
  | illegal (hready : s.busy = false) : StepEffect s (illegalCommand s.dropCommand)
  | accepted {c : HostCmd} {cs : List HostCmd} {op : SeqOp} {latched : State} (hready : s.busy = false)
      (hcmd : s.commands = c :: cs) (acc : Accepted s.dropCommand (decodeHost c) op latched) :
      StepEffect s (runSeq (seqLength op) (latched.start op))

theorem step_effect {s t : State} (h : step s = .next t) : StepEffect s t := by
  cases hbusy : s.busy with
  | true =>
    cases (step_busy s hbusy).symm.trans h
    exact .busy hbusy
  | false =>
    rcases step_ready s hbusy with ⟨_, e⟩ | ⟨c, cs, hcmd, e⟩
    · cases e.symm.trans h
      exact .idle hbusy
    · rcases exec_decodeHost_cases c s.dropCommand with hill | ⟨op, latched, acc⟩
      · cases (e.trans hill).symm.trans h
        exact .illegal hbusy
      · cases (e.trans (exec_accepted acc)).symm.trans h
        rw [operate_ready op latched s.dropCommand hbusy]
        exact .accepted hbusy hcmd acc

/-- What every micro-step keeps, a run keeps. -/
theorem runSeq_induction {P : State → Prop} (keep : ∀ s, P s → P (tick s)) (n : Nat) {s : State} (h : P s) :
    P (runSeq n s) := by
  induction n generalizing s with
  | zero => exact h
  | succ n ih => exact ih (keep s h)

/-! ## The invariant of the sequencer -/

/-- Idle at the position of Idle the invariant asks for nothing more. -/
theorem seqInv_of_idle {s : State} (hbusy : s.busy = false) (hop : s.seqOp = .idle) (hstep : s.seqStep = 0)
    (hsub : s.seqSub = 0) : SeqInv s := by
  constructor <;> simp [hbusy, hop, hstep, hsub]

theorem idle_of_seqInv {s : State} (inv : SeqInv s) (hready : s.busy = false) :
    s.seqOp = .idle ∧ s.seqStep = 0 ∧ s.seqSub = 0 := by
  have hop : s.seqOp = .idle := by
    by_contra h
    simp [inv.busy_iff.mpr h] at hready
  exact ⟨hop, inv.idle_position hop⟩

theorem seqInv_deliver (s : State) (c : Completion) : SeqInv (s.deliver c) :=
  seqInv_of_idle rfl rfl rfl rfl

theorem seqInv_raiseError {s : State} (running : s.seqOp ≠ .idle) (status : Status) (failStep : BitVec 4) :
    SeqInv (s.raiseError status failStep) := by
  rw [raiseError_running s status failStep running]
  exact seqInv_deliver s _

/-- The first position of an accepted operation: its operands are latched, `W_ACK` is clear, nothing else is asked. -/
theorem seqInv_start {s latched : State} {i : Instr} {op : SeqOp} (acc : Accepted s i op latched) :
    SeqInv (latched.start op) where
  busy_iff := iff_of_true rfl (accepted_ne_idle acc)
  idle_position hidle := absurd hidle (accepted_ne_idle acc)
  legal_position _ := by
    change microAt op 1 0 ≠ .hold
    cases acc <;> decide
  old_address hop := by
    obtain rfl : op = .chaddr := hop
    cases acc; rfl
  power _ level h := by simp [expectedPwr] at h
  warn_before hop _ := by
    obtain rfl : op = .chaddr := hop
    cases acc; rfl
  fetched _ late := absurd late (show ¬ 5 ≤ (1#4).toNat by decide)
  patched _ late := absurd late (show ¬ 6 ≤ (1#4).toNat by decide)
  force_register hop := by
    obtain rfl : op = .rdforce := hop
    cases acc; rfl
  force_reading _ h := absurd h (show ¬ 1#4 = 5 by decide)
  captured _ h := absurd h (show ¬ 1#4 = 3 by decide)

section
variable {s : State} {p : BitVec 4 × BitVec 2}

/-! The registers of CHADDR, RDFORCE and CALIB when a performed micro-step goes on to the next position `p`. -/

theorem power_of_performed (inv : SeqInv s) (legal : s.micro ≠ .hold)
    (next : nextPosition s.seqOp s.seqStep s.seqSub = some p) (hop : s.seqOp = .chaddr) (e : Event) (reply : List Byte)
    (x : Sample) (level : BitVec 1) (expected : expectedPwr p.1 p.2 = some level) :
    (performed s.micro e reply x s).pwr = level := by
  by_cases hpin : ∃ l, s.micro = .pin l
  · obtain ⟨l, hm⟩ := hpin
    rw [(pin_position hm).2 p next, Option.some_inj] at expected
    rw [hm]
    exact expected
  · have quiet : ∀ l, s.micro ≠ .pin l := fun l h => hpin ⟨l, h⟩
    rw [performed_pwr e reply x s quiet]
    exact inv.power hop level ((expectedPwr_next legal next hop quiet).symm.trans expected)

theorem warn_of_performed (inv : SeqInv s) (legal : s.micro ≠ .hold)
    (next : nextPosition s.seqOp s.seqStep s.seqSub = some p) (hop : s.seqOp = .chaddr) (e : Event) (reply : List Byte)
    (x : Sample) (early : p.1.toNat ≤ 4) : (performed s.micro e reply x s).wAck = false := by
  have other : s.micro ≠ .fetchWord := by
    intro hm
    obtain ⟨_, _, hnext⟩ := fetch_position hm
    obtain rfl : (5, 0) = p := by simpa [hnext] using next
    exact absurd early (by decide)
  obtain ⟨_, _, _, hw⟩ := performed_fetchLatches e reply x s other
  rw [hw]
  exact inv.warn_before hop ((step_le_next legal next).trans early)

theorem fetched_of_performed (inv : SeqInv s) (legal : s.micro ≠ .hold)
    (next : nextPosition s.seqOp s.seqStep s.seqSub = some p) (hop : s.seqOp = .chaddr) (e : Event) (reply : List Byte)
    (x : Sample) (late : 5 ≤ p.1.toNat) :
    (performed s.micro e reply x s).word =
        fetchedWord (performed s.micro e reply x s).f0 (performed s.micro e reply x s).f2 ∧
      (performed s.micro e reply x s).wAck = ackMismatch (performed s.micro e reply x s).f0 := by
  by_cases hm : s.micro = .fetchWord
  · obtain ⟨_, hstep, _⟩ := fetch_position hm
    have clear : s.wAck = false := inv.warn_before hop (by rw [hstep]; decide)
    simp [hm, performed, clear]
  · obtain ⟨hf0, hf2, hword, hwack⟩ := performed_fetchLatches e reply x s hm
    rw [hf0, hf2, hword, hwack]
    exact inv.fetched hop (fetched_of_next legal next hop hm late)

theorem patched_of_performed (inv : SeqInv s) (legal : s.micro ≠ .hold)
    (next : nextPosition s.seqOp s.seqStep s.seqSub = some p) (hop : s.seqOp = .chaddr) (e : Event) (reply : List Byte)
    (x : Sample) (late : 6 ≤ p.1.toNat) :
    (performed s.micro e reply x s).newWord =
      patchWord (performed s.micro e reply x s).word (performed s.micro e reply x s).tNew := by
  by_cases hm : s.micro = .patch
  · rw [hm]; rfl
  · have other : s.micro ≠ .fetchWord := by
      intro hfetch
      obtain ⟨_, _, hnext⟩ := fetch_position hfetch
      obtain rfl : (5, 0) = p := by simpa [hnext] using next
      exact absurd late (by decide)
    obtain ⟨_, _, hword, _⟩ := performed_fetchLatches e reply x s other
    rw [performed_newWord e reply x s hm, hword, performed_tNew]
    exact inv.patched hop (patched_of_next legal next hop hm late)

theorem forceReading_of_performed (legal : s.micro ≠ .hold)
    (next : nextPosition s.seqOp s.seqStep s.seqSub = some p) (hop : s.seqOp = .rdforce) (e : Event) (reply : List Byte)
    (x : Sample) (last : p.1 = 5) :
    (performed s.micro e reply x s).tRaw =
      rawReading (performed s.micro e reply x s).b0 (performed s.micro e reply x s).b1 := by
  have hm : s.micro = .combineForce := combineForce_of_next legal next hop last
  rw [hm]
  rfl

theorem captured_of_performed (legal : s.micro ≠ .hold)
    (next : nextPosition s.seqOp s.seqStep s.seqSub = some p) (hop : s.seqOp = .calib) (e : Event) (reply : List Byte)
    (x : Sample) (third : p.1 = 3) :
    (performed s.micro e reply x s).zeroOffset = (performed s.micro e reply x s).tRaw := by
  have hm : s.micro = .zeroCapture := zeroCapture_of_next legal next hop third
  rw [hm]
  rfl

/-- A performed micro-step that goes on to the next position keeps the invariant. -/
theorem seqInv_goTo_performed (inv : SeqInv s) (legal : s.micro ≠ .hold) (e : Event) (reply : List Byte) (x : Sample)
    (next : nextPosition s.seqOp s.seqStep s.seqSub = some p) :
    SeqInv ((performed s.micro e reply x s).goTo p.1 p.2) where
  busy_iff := by simpa using inv.busy_iff
  idle_position hidle := absurd (by simpa using hidle) (running_of_micro rfl legal)
  legal_position _ := by simpa [State.micro] using nextPosition_legal legal next
  old_address := by simpa using inv.old_address
  power hop := power_of_performed inv legal next (by simpa using hop) e reply x
  warn_before hop := warn_of_performed inv legal next (by simpa using hop) e reply x
  fetched hop := fetched_of_performed inv legal next (by simpa using hop) e reply x
  patched hop := patched_of_performed inv legal next (by simpa using hop) e reply x
  force_register := by simpa using inv.force_register
  force_reading hop := forceReading_of_performed legal next (by simpa using hop) e reply x
  captured hop := captured_of_performed legal next (by simpa using hop) e reply x

end

theorem seqInv_of_tickEffect {s t : State} (inv : SeqInv s) (h : TickEffect s t) : SeqInv t := by
  cases h with
  | unanswered => exact inv
  | hold => exact inv
  | failed call e =>
    have running : (s.dropAnswer.emit e).seqOp ≠ .idle := running_of_call call
    exact seqInv_raiseError running _ _
  | degenerate hm => exact seqInv_raiseError (running_of_micro hm (by simp)) _ _
  | combined => exact seqInv_deliver s _
  | converted => exact seqInv_deliver s _
  | advanced legal e reply x =>
    rcases advance_performed legal e reply x with ⟨p, next, h⟩ | ⟨_, h⟩ <;> rw [h]
    · exact seqInv_goTo_performed inv legal e reply x next
    · exact seqInv_deliver _ _

theorem seqInv_tick (s : State) (inv : SeqInv s) : SeqInv (tick s) :=
  seqInv_of_tickEffect inv (tick_effect s)

theorem seqInv_runSeq (n : Nat) {s : State} (inv : SeqInv s) : SeqInv (runSeq n s) :=
  runSeq_induction seqInv_tick n inv

/-- Settles O48: a micro-step leads to the next position or to Idle, and an accepted operation starts with the
invariant. -/
theorem everyStepKeepsTheSequencerInvariant : Obligations.EveryStepKeepsTheSequencerInvariant := by
  intro s t inv h
  cases step_effect h with
  | busy => exact seqInv_tick s inv
  | idle => exact inv
  | illegal hready =>
    obtain ⟨hop, hstep, hsub⟩ := idle_of_seqInv inv hready
    rw [illegalCommand_ready (s := s.dropCommand) hready]
    exact seqInv_of_idle hready hop hstep hsub
  | accepted _ _ acc => exact seqInv_runSeq _ (seqInv_start acc)

/-- The state after construction is idle. -/
theorem seqInv_construct (a : U7) : SeqInv (State.construct a) :=
  seqInv_of_idle rfl rfl rfl rfl

/-- Settles O47: at reset the block is idle, and both logs are empty. -/
theorem invariantsHoldAtReset : Obligations.InvariantsHoldAtReset :=
  ⟨seqInv_construct deviceAddress, fun _ hc => absurd hc List.not_mem_nil, fun _ he => absurd he List.not_mem_nil⟩

/-! ## The records -/

theorem reportedWarning_of_ne_chaddr {s : State} (h : s.seqOp ≠ .chaddr) : reportedWarning s = false := by
  unfold reportedWarning
  split
  · contradiction
  all_goals rfl

theorem recordsLegal_append {s t : State} {c : Completion} (legal : RecordsLegal s) (h : t.records = s.records ++ [c])
    (hc : c.Legal) : RecordsLegal t := by
  intro c' hc'
  rw [h, List.mem_append, List.mem_singleton] at hc'
  rcases hc' with hc' | rfl
  · exact legal c' hc'
  · exact hc

/-- A record of a normal completion carries at most one result, and none beside a warning. -/
theorem okRecord_legal {s : State} {raw : Option U16} {num : Option Sys2Proof.Num} (one : raw = none ∨ num = none)
    (h : s.seqOp ≠ .chaddr ∨ raw = none ∧ num = none) : (okRecord s raw num).Legal := by
  refine ⟨rfl, fun warn => ?_, one⟩
  rcases h with h | h
  · have clear := reportedWarning_of_ne_chaddr h
    simp [okRecord, clear] at warn
  · exact h

/-- A call stands in one of the steps that R153 and R156 name. -/
theorem call_position {op : SeqOp} {step : BitVec 4} {sub : BitVec 2} (call : callsOf (microAt op step sub) = 1) :
    (op ≠ .chaddr ∧ (step = 1 ∨ step = 3)) ∨
    (op = .chaddr ∧ step.toNat ≤ 4 ∧ (step = 1 ∨ step = 2 ∨ step = 3 ∨ step = 4)) ∨
    (op = .chaddr ∧ (step = 6 ∨ step = 7 ∨ step = 8)) :=
  forall_positions (P := fun op step sub => callsOf (microAt op step sub) = 1 →
      (op ≠ .chaddr ∧ (step = 1 ∨ step = 3)) ∨
      (op = .chaddr ∧ step.toNat ≤ 4 ∧ (step = 1 ∨ step = 2 ∨ step = 3 ∨ step = 4)) ∨
      (op = .chaddr ∧ (step = 6 ∨ step = 7 ∨ step = 8)))
    (by decide) (legal_of_call call) call

/-- The record of a failed call: the code of the operation and the step in progress, `W_ACK` only after the fetch. -/
theorem transportRecord_legal {s : State} (inv : SeqInv s) (call : callsOf s.micro = 1) :
    (errorRecord s (transportStatus s.seqOp) s.seqStep).Legal := by
  rcases call_position call with ⟨hop, hstep⟩ | ⟨hop, early, hstep⟩ | ⟨hop, hstep⟩
  · have status : transportStatus s.seqOp = .transportError := if_neg hop
    rw [status]
    exact ⟨hstep, reportedWarning_of_ne_chaddr hop, rfl, rfl⟩
  · have status : transportStatus s.seqOp = .protocolAborted := if_pos hop
    have clear : reportedWarning s = false := by simp [reportedWarning, hop, inv.warn_before hop early]
    rw [status]
    exact ⟨by simp only [errorRecord]; tauto, fun warn => by simp [errorRecord, clear] at warn, rfl, rfl⟩
  · have status : transportStatus s.seqOp = .protocolAborted := if_pos hop
    rw [status]
    exact ⟨by simp only [errorRecord]; tauto, fun _ => hstep, rfl, rfl⟩

theorem recordsLegal_of_tickEffect {s t : State} (inv : SeqInv s) (legal : RecordsLegal s) (h : TickEffect s t) :
    RecordsLegal t := by
  cases h with
  | unanswered => exact legal
  | hold => exact legal
  | failed call e =>
    have running : (s.dropAnswer.emit e).seqOp ≠ .idle := running_of_call call
    rw [State.raiseTransport, raiseError_running _ _ _ running]
    have record := transportRecord_legal inv call
    exact recordsLegal_append legal rfl record
  | degenerate hm =>
    have clear := reportedWarning_of_ne_chaddr (op_ne_chaddr_of_result (.inr (.inr hm)))
    rw [State.raiseDegenerate, raiseError_running _ _ _ (running_of_micro hm (by simp))]
    exact recordsLegal_append legal rfl ⟨rfl, clear, rfl, rfl⟩
  | combined hm raw =>
    exact recordsLegal_append legal rfl (okRecord_legal (.inr rfl) (.inl (op_ne_chaddr_of_result (.inl hm))))
  | converted hm force =>
    exact recordsLegal_append legal rfl (okRecord_legal (.inl rfl) (.inl (op_ne_chaddr_of_result (.inr (.inl hm)))))
  | advanced running e reply x =>
    rcases advance_performed running e reply x with ⟨p, _, h⟩ | ⟨_, h⟩ <;> rw [h]
    · simpa [RecordsLegal] using legal
    · exact recordsLegal_append legal (by rw [State.complete_records, performed_records])
        (okRecord_legal (.inl rfl) (.inr ⟨rfl, rfl⟩))

/-- The records of a run are legal, since the invariant goes along with them. -/
theorem recordsLegal_runSeq (n : Nat) {s : State} (inv : SeqInv s) (legal : RecordsLegal s) :
    RecordsLegal (runSeq n s) :=
  (runSeq_induction (P := fun s => SeqInv s ∧ RecordsLegal s)
    (fun s ⟨inv, legal⟩ => ⟨seqInv_tick s inv, recordsLegal_of_tickEffect inv legal (tick_effect s)⟩) n ⟨inv, legal⟩).2

/-- Settles O49: the invariant gives each record its step and its warning. -/
theorem everyStepKeepsTheRecordsLegal : Obligations.EveryStepKeepsTheRecordsLegal := by
  intro s t inv legal h
  cases step_effect h with
  | busy => exact recordsLegal_of_tickEffect inv legal (tick_effect s)
  | idle => exact legal
  | illegal hready =>
    rw [illegalCommand_ready (s := s.dropCommand) hready]
    exact recordsLegal_append legal rfl ⟨rfl, rfl, rfl, rfl⟩
  | accepted _ _ acc =>
    exact recordsLegal_runSeq _ (seqInv_start acc) (by rw [RecordsLegal, accepted_records acc]; exact legal)

/-! ## The device address, the command port and the logs -/

theorem extends_of_tickEffect {s t : State} (h : TickEffect s t) : Extends s t := by
  cases h with
  | unanswered => exact .refl s
  | hold => exact .refl s
  | failed _ e =>
    have drop : Extends s s.dropAnswer := ⟨rfl, rfl, List.prefix_refl _, List.prefix_refl _⟩
    exact drop.trans ((extends_emit _ e).trans (extends_raiseError _ _ _))
  | degenerate => exact extends_raiseError s _ _
  | combined => exact extends_deliver s _
  | converted => exact extends_deliver s _
  | advanced _ e reply x => exact (extends_performed s.micro e reply x s).trans (extends_advance _)

theorem extends_tick (s : State) : Extends s (tick s) :=
  extends_of_tickEffect (tick_effect s)

theorem extends_runSeq (n : Nat) (s : State) : Extends s (runSeq n s) :=
  runSeq_induction (fun t h => h.trans (extends_tick t)) n (.refl s)

/-- What every step keeps: `Extends` without the command port, from which an idle block takes the command. -/
structure Grows (s t : State) : Prop where
  devAddr : t.devAddr = s.devAddr
  trace : s.trace <+: t.trace
  records : s.records <+: t.records

theorem Grows.trans {s t u : State} (h : Grows s t) (k : Grows t u) : Grows s u :=
  ⟨k.devAddr.trans h.devAddr, h.trace.trans k.trace, h.records.trans k.records⟩

theorem grows_of_extends {s t : State} (h : Extends s t) : Grows s t :=
  ⟨h.devAddr, h.trace, h.records⟩

theorem grows_step {s t : State} (h : step s = .next t) : Grows s t := by
  have drop : Grows s s.dropCommand := ⟨rfl, List.prefix_refl _, List.prefix_refl _⟩
  cases step_effect h with
  | busy => exact grows_of_extends (extends_tick s)
  | idle => exact grows_of_extends (.refl s)
  | illegal hready =>
    rw [illegalCommand_ready (s := s.dropCommand) hready]
    exact ⟨rfl, List.prefix_refl _, List.prefix_append _ _⟩
  | accepted _ _ acc => exact drop.trans (grows_of_extends ((extends_accepted acc).trans (extends_runSeq _ _)))

/-! ## Runs of the machine -/

theorem reaches_zero {s t : State} : Reaches 0 s t ↔ s = t := by
  change Host.Outcome.next s = Host.Outcome.next t ↔ s = t
  simp

/-- A run of `n + 1` steps that answers a state is a step and a run of `n`. -/
theorem run_succ_eq_next (M : Host.Core) (n : Nat) (s t : M.State) :
    M.run (n + 1) s = .next t ↔ ∃ u, M.step s = .next u ∧ M.run n u = .next t := by
  rw [Host.Core.run]
  cases M.step s with
  | next u => simp
  | fault r => simp
  | refused r => simp

theorem reaches_succ {n : Nat} {s t : State} : Reaches (n + 1) s t ↔ ∃ u, step s = .next u ∧ Reaches n u t :=
  run_succ_eq_next Sys2Proof.core n s t

/-- Settles O51: every step keeps the address and extends the logs, so every run does. -/
theorem runsKeepTheAddressAndTheLogs : Obligations.RunsKeepTheAddressAndTheLogs := by
  intro n s t h
  suffices grows : Grows s t from ⟨grows.devAddr, grows.trace, grows.records⟩
  induction n generalizing s with
  | zero =>
    obtain rfl := reaches_zero.mp h
    exact grows_of_extends (.refl s)
  | succ n ih =>
    obtain ⟨u, hstep, hrun⟩ := reaches_succ.mp h
    exact (grows_step hstep).trans (ih u hrun)

/-! ## Waits -/

/-- Settles O43: a wait is its event and the advance, and the table gives the next position. -/
theorem waitStepAlwaysCompletes : Obligations.WaitStepAlwaysCompletes := by
  intro s d hbusy hm
  have htick : tick s = (s.emit (.wait d)).advance := by simp [tick, hm, runMicro, waitFor]
  have running : (s.emit (.wait d)).seqOp ≠ .idle := running_of_micro hm (by simp)
  have hnext := nextPosition_of_wait hm
  rw [step_busy s hbusy, htick]
  refine ⟨fun hlast => ?_, fun hlast => ?_⟩
  · rw [if_neg hlast] at hnext
    rcases advance_nextPosition (s.emit (.wait d)) running with ⟨p, h, e⟩ | ⟨h, _⟩
    · rw [e, ← Option.some_inj.mp (hnext.symm.trans h)]
      rfl
    · exact absurd (hnext.symm.trans h) (by simp)
  · rw [if_pos hlast] at hnext
    obtain ⟨hstep, _⟩ := hlast
    have legal : s.micro ≠ .hold := by simp [hm]
    have hop : s.seqOp = .chaddr := op_eq_chaddr_of_step_eight legal hstep
    have warning : reportedWarning (s.emit (.wait d)) = s.wAck := by simp [reportedWarning, hop]
    rcases advance_nextPosition (s.emit (.wait d)) running with ⟨p, h, _⟩ | ⟨_, e⟩
    · exact absurd (hnext.symm.trans h) (by simp)
    · rw [e, State.complete, okRecord, warning]
      rfl

/-- Settles O42: the decoder never refuses a command, and the row issued next does the micro-step at its position. -/
theorem stepRunsTheDecodedInstruction : Obligations.StepRunsTheDecodedInstruction := by
  refine ⟨fun s c cs i hready hcmd hdec _ => ?_, fun s i hbusy hframe => ?_, fun s hbusy _ => step_busy s hbusy,
    fun s hready hcmd => ?_⟩
  · cases hdec
    rcases step_ready s hready with ⟨hnil, _⟩ | ⟨c', cs', hcons, e⟩
    · simp [hnil] at hcmd
    · obtain ⟨rfl, rfl⟩ := List.cons_eq_cons.mp (hcmd.symm.trans hcons)
      rw [e, State.dropCommand, hcmd]
      rfl
  · rw [step_busy s hbusy, exec_nextFrame s i hframe]
  · rcases step_ready s hready with ⟨_, e⟩ | ⟨c, cs, hcons, _⟩
    · exact e
    · simp [hcons] at hcmd

/-- Settles O35: neither an operation nor a reserved header is accepted, and a busy step is a micro-step, which leaves
the command port alone. -/
theorem busyBlockAcceptsNoCommand : Obligations.BusyBlockAcceptsNoCommand := by
  intro s hbusy
  refine ⟨fun c => ?_, fun t h => ?_⟩
  · rcases exec_decodeHost_cases c s with h | ⟨op, latched, acc⟩
    · rw [h, illegalCommand_busy hbusy]
    · rw [exec_accepted acc, operate_busy op latched s hbusy]
  · cases (step_busy s hbusy).symm.trans h
    exact (extends_tick s).commands

/-! ## The persistent registers -/

theorem sameRegisters_refl (s : State) : SameRegisters s s :=
  ⟨rfl, rfl, rfl, rfl⟩

theorem sameRegisters_raiseError (s : State) (status : Status) (failStep : BitVec 4) :
    SameRegisters s (s.raiseError status failStep) := by
  unfold State.raiseError
  split <;> exact ⟨rfl, rfl, rfl, rfl⟩

theorem sameRegisters_advance (s : State) : SameRegisters s s.advance := by
  rcases advance_cases s with ⟨_, e⟩ | ⟨_, _, e⟩ | ⟨_, _, _, e⟩ | ⟨_, _, _, e⟩ <;> rw [e] <;> exact ⟨rfl, rfl, rfl, rfl⟩

/-- A micro-step leaves the persistent registers alone or writes what its computation or drive of the line writes. -/
theorem tick_registers (s : State) :
    SameRegisters s (tick s) ∨
    s.micro ≠ .hold ∧ ∃ e reply x, SameRegisters (performed s.micro e reply x s) (tick s) := by
  generalize ht : tick s = t
  cases ht ▸ tick_effect s with
  | unanswered => exact .inl (sameRegisters_refl s)
  | hold => exact .inl (sameRegisters_refl s)
  | failed _ e => exact .inl (sameRegisters_raiseError (s.dropAnswer.emit e) _ _)
  | degenerate => exact .inl (sameRegisters_raiseError s _ _)
  | combined => exact .inl ⟨rfl, rfl, rfl, rfl⟩
  | converted => exact .inl ⟨rfl, rfl, rfl, rfl⟩
  | advanced legal e reply x => exact .inr ⟨legal, e, reply, x, sameRegisters_advance _⟩

section
variable {s : State}

/-- `PWR` moves in CHADDR alone (10_state.md R20, R32). -/
theorem tick_pwr (hop : s.seqOp ≠ .chaddr) : (tick s).pwr = s.pwr := by
  rcases tick_registers s with ⟨_, _, _, h⟩ | ⟨_, e, reply, x, _, _, _, h⟩
  · exact h
  · exact h.trans (performed_pwr e reply x s fun _ hm => hop (pin_position hm).1)

/-- `ZERO_OFFSET` is written by ZCAP, SETCAL and CALIB alone (R32). -/
theorem tick_zeroOffset (hz : s.seqOp ≠ .zcap) (hs : s.seqOp ≠ .setcal) (hc : s.seqOp ≠ .calib) :
    (tick s).zeroOffset = s.zeroOffset := by
  rcases tick_registers s with ⟨_, h, _, _⟩ | ⟨legal, e, reply, x, _, h, _, _⟩
  · exact h
  · obtain ⟨zero, manual, _⟩ := calibration_position legal
    exact h.trans (performed_zeroOffset e reply x s (fun hm => (zero hm).elim hz hc) fun hm => hs (manual hm))

/-- `SENS` is written by CALLD, SETCAL and CALIB alone (R32). -/
theorem tick_sens (hd : s.seqOp ≠ .calld) (hs : s.seqOp ≠ .setcal) (hc : s.seqOp ≠ .calib) :
    (tick s).sens = s.sens := by
  rcases tick_registers s with ⟨_, _, h, _⟩ | ⟨legal, e, reply, x, _, _, h, _⟩
  · exact h
  · obtain ⟨_, manual, load⟩ := calibration_position legal
    exact h.trans (performed_sens e reply x s (fun hm => (load hm).elim hd hc) fun hm => hs (manual hm))

end

/-- A micro-step goes on with its operation or ends it. -/
theorem tick_seqOp (s : State) : (tick s).seqOp = s.seqOp ∨ (tick s).seqOp = .idle := by
  by_cases hidle : s.seqOp = .idle
  · exact .inl (by rw [tick_idle s hidle])
  · generalize ht : tick s = t
    cases ht ▸ tickWaits_tick s hidle with
    | held => exact .inl rfl
    | failed idle => exact .inr idle
    | moved _ seqOp => exact .inl seqOp
    | completed _ idle => exact .inr idle

/-- What no micro-step of an operation changes, a run of the operation does not change. -/
theorem runSeq_keeps {α : Type} (f : State → α) {op : SeqOp} (keep : ∀ s, s.seqOp = op → f (tick s) = f s) (n : Nat)
    {s : State} (hop : s.seqOp = op) : f (runSeq n s) = f s := by
  induction n generalizing s with
  | zero => rfl
  | succ n ih =>
    rw [runSeq_succ]
    rcases tick_seqOp s with h | h
    · rw [ih (h.trans hop), keep s hop]
    · rw [runSeq_idle n _ h, keep s hop]

section
variable {s latched t : State} {i : Instr} {op : SeqOp}

/-- What the latching of the operands and the micro-steps of an operation keep, the operation keeps. -/
theorem accepted_keeps {α : Type} (f : State → α) (acc : Accepted s i op latched) (h : exec i s = .next t)
    (latch : f (latched.start op) = f s) (keep : ∀ u, u.seqOp = op → f (tick u) = f u) : f t = f s := by
  cases (exec_accepted acc).symm.trans h
  unfold operate
  split
  · rfl
  · exact (runSeq_keeps f keep _ rfl).trans latch

theorem accepted_devAddr (acc : Accepted s i op latched) (h : exec i s = .next t) : t.devAddr = s.devAddr := by
  obtain ⟨latch, _, _, _⟩ := sameRegisters_accepted acc
  exact accepted_keeps _ acc h latch fun u _ => (extends_tick u).devAddr

theorem accepted_zeroOffset (acc : Accepted s i op latched) (h : exec i s = .next t) (hz : op ≠ .zcap)
    (hs : op ≠ .setcal) (hc : op ≠ .calib) : t.zeroOffset = s.zeroOffset := by
  obtain ⟨_, latch, _, _⟩ := sameRegisters_accepted acc
  exact accepted_keeps _ acc h latch fun _ hop => tick_zeroOffset (hop.trans_ne hz) (hop.trans_ne hs) (hop.trans_ne hc)

theorem accepted_sens (acc : Accepted s i op latched) (h : exec i s = .next t) (hd : op ≠ .calld)
    (hs : op ≠ .setcal) (hc : op ≠ .calib) : t.sens = s.sens := by
  obtain ⟨_, _, latch, _⟩ := sameRegisters_accepted acc
  exact accepted_keeps _ acc h latch fun _ hop => tick_sens (hop.trans_ne hd) (hop.trans_ne hs) (hop.trans_ne hc)

theorem accepted_pwr (acc : Accepted s i op latched) (h : exec i s = .next t) (hop : op ≠ .chaddr) :
    t.pwr = s.pwr := by
  obtain ⟨_, _, _, latch⟩ := sameRegisters_accepted acc
  exact accepted_keeps _ acc h latch fun _ h => tick_pwr (h.trans_ne hop)

end

/-- RDRAW, FCONV and RDFORCE write none of the persistent registers (R32). -/
theorem accepted_sameRegisters {s t latched : State} {i : Instr} {op : SeqOp} (acc : Accepted s i op latched)
    (h : exec i s = .next t) (hop : op = .rdraw ∨ op = .fconv ∨ op = .rdforce) : SameRegisters s t := by
  refine ⟨accepted_devAddr acc h, accepted_zeroOffset acc h ?_ ?_ ?_, accepted_sens acc h ?_ ?_ ?_,
    accepted_pwr acc h ?_⟩ <;> rcases hop with rfl | rfl | rfl <;> decide

/-- Settles O52: every operation's column of the matrix, from what its micro-steps write. -/
theorem operationsFollowTheAccessMatrix : Obligations.OperationsFollowTheAccessMatrix := by
  intro s t
  refine ⟨fun reg h => accepted_sameRegisters (.rdraw reg) h (by simp), fun raw h => ?_, fun raw f h => ?_,
    fun raw h => accepted_sameRegisters (.fconv raw) h (by simp), fun z k h => ?_, fun a h => ?_,
    fun h => accepted_sameRegisters .rdforce h (by simp), fun h => ?_⟩
  · have acc := Accepted.zcap (s := s) raw
    exact ⟨accepted_devAddr acc h, accepted_sens acc h (by decide) (by decide) (by decide),
      accepted_pwr acc h (by decide)⟩
  · have acc := Accepted.calld (s := s) raw f
    exact ⟨accepted_devAddr acc h, accepted_zeroOffset acc h (by decide) (by decide) (by decide),
      accepted_pwr acc h (by decide)⟩
  · have acc := Accepted.setcal (s := s) z k
    exact ⟨accepted_devAddr acc h, accepted_pwr acc h (by decide)⟩
  · have acc := Accepted.chaddr (s := s) a
    exact ⟨accepted_devAddr acc h, accepted_zeroOffset acc h (by decide) (by decide) (by decide),
      accepted_sens acc h (by decide) (by decide) (by decide)⟩
  · have acc := Accepted.calib (s := s)
    exact ⟨accepted_devAddr acc h, accepted_pwr acc h (by decide)⟩

/-- Settles O53: a micro-step of another operation keeps `PWR`, and so does a whole operation other than CHADDR. -/
theorem pwrMovesOnlyInChaddr : Obligations.PwrMovesOnlyInChaddr := by
  intro s t _ h moved
  cases step_effect h with
  | busy => exact .inl (by_contra fun hop => moved (tick_pwr hop))
  | idle => exact absurd rfl moved
  | illegal hready =>
    rw [illegalCommand_ready (s := s.dropCommand) hready] at moved
    exact absurd rfl moved
  | @accepted c cs op latched hready hcmd acc =>
    by_cases hop : op = .chaddr
    · subst hop
      generalize hi : decodeHost c = i at acc
      cases acc with
      | chaddr a => exact .inr ⟨hready, c, cs, a, hcmd, hi⟩
    · have hexec := exec_accepted acc
      rw [operate_ready op latched s.dropCommand hready] at hexec
      exact absurd (accepted_pwr acc hexec hop) moved

/-! ## Operations against single steps -/

/-- With the invariant and an empty command port a step of the machine is a micro-step, busy or not. -/
theorem step_eq_tick {s : State} (inv : SeqInv s) (hcmd : s.commands = []) : step s = .next (tick s) := by
  cases hbusy : s.busy with
  | true => exact step_busy s hbusy
  | false =>
    rw [tick_idle s (idle_of_seqInv inv hbusy).1]
    rcases step_ready s hbusy with ⟨_, e⟩ | ⟨c, cs, hcons, _⟩
    · exact e
    · simp [hcmd] at hcons

theorem reaches_runSeq (n : Nat) {s : State} (inv : SeqInv s) (hcmd : s.commands = []) :
    Reaches n s (runSeq n s) := by
  induction n generalizing s with
  | zero => exact reaches_zero.mpr rfl
  | succ n ih =>
    exact reaches_succ.mpr ⟨tick s, step_eq_tick inv hcmd,
      ih (seqInv_tick s inv) ((extends_tick s).commands.trans hcmd)⟩

/-- An operation that an idle block accepts ends where its micro-steps lead. -/
theorem accepted_reaches {s t latched : State} {i : Instr} {op : SeqOp} (acc : Accepted s i op latched)
    (hready : s.busy = false) (hcmd : s.commands = []) (h : exec i s = .next t) :
    Reaches (seqLength op) (latched.start op) t := by
  cases (exec_accepted acc).symm.trans h
  rw [operate_ready op latched s hready]
  exact reaches_runSeq _ (seqInv_start acc) ((extends_accepted acc).commands.trans hcmd)

/-- Settles O54: each operation from its accepted state, which has the invariant. -/
theorem operationIsItsMicroSteps : Obligations.OperationIsItsMicroSteps := by
  intro s t hready hcmd
  exact ⟨fun reg => accepted_reaches (.rdraw reg) hready hcmd, fun raw => accepted_reaches (.zcap raw) hready hcmd,
    fun raw f => accepted_reaches (.calld raw f) hready hcmd, fun raw => accepted_reaches (.fconv raw) hready hcmd,
    fun z k => accepted_reaches (.setcal z k) hready hcmd, fun a => accepted_reaches (.chaddr a) hready hcmd,
    accepted_reaches .rdforce hready hcmd, accepted_reaches .calib hready hcmd⟩

/-! ## The ends of the operations -/

/-- From a control position the operation ends within `n` micro-steps if it has `a` answers and `c` samples: every
position asks for no more than is left, and the last one is reached. -/
def endsWithin (op : SeqOp) : Nat → BitVec 4 → BitVec 2 → Nat → Nat → Bool
  | 0, _, _, _, _ => false
  | n + 1, step, sub, a, c =>
    let m := microAt op step sub
    decide (m ≠ .hold) && decide (callsOf m ≤ a) && decide (samplesOf m ≤ c) &&
      (nextPosition op step sub).all fun p => endsWithin op n p.1 p.2 (a - callsOf m) (c - samplesOf m)

/-- The operation of `s` is over in `t`, with one record more. -/
def EndedFrom (s t : State) : Prop :=
  t.seqOp = .idle ∧ ∃ c, t.records = s.records ++ [c]

theorem endedFrom_raiseError {s u : State} (running : u.seqOp ≠ .idle) (records : u.records = s.records)
    (status : Status) (failStep : BitVec 4) : EndedFrom s (u.raiseError status failStep) := by
  rw [raiseError_running u status failStep running]
  exact ⟨rfl, _, by rw [State.deliver_records, records]⟩

/-- A micro-step that has what it asks for ends the operation or goes on to the next position. -/
theorem tick_progress {s : State} (legal : s.micro ≠ .hold) (answers : callsOf s.micro ≤ s.answers.length)
    (samples : samplesOf s.micro ≤ s.samples.length) :
    EndedFrom s (tick s) ∨ ∃ e reply x p, nextPosition s.seqOp s.seqStep s.seqSub = some p ∧
      tick s = (performed s.micro e reply x s).goTo p.1 p.2 := by
  generalize ht : tick s = t
  cases ht ▸ tick_effect s with
  | unanswered short => omega
  | hold hm => exact absurd hm legal
  | failed call e =>
    have running : (s.dropAnswer.emit e).seqOp ≠ .idle := running_of_call call
    exact .inl (endedFrom_raiseError running rfl _ _)
  | degenerate => exact .inl (endedFrom_raiseError (running_of_micro rfl legal) rfl _ _)
  | combined => exact .inl ⟨rfl, _, rfl⟩
  | converted => exact .inl ⟨rfl, _, rfl⟩
  | advanced _ e reply x =>
    rcases advance_performed legal e reply x with ⟨p, next, h⟩ | ⟨_, h⟩
    · exact .inr ⟨e, reply, x, p, next, h⟩
    · rw [h]
      exact .inl ⟨rfl, _, by rw [State.complete_records, performed_records]⟩

theorem endedFrom_runSeq (n : Nat) {s : State} {a c : Nat} (answers : a ≤ s.answers.length)
    (samples : c ≤ s.samples.length) (ends : endsWithin s.seqOp n s.seqStep s.seqSub a c = true) :
    EndedFrom s (runSeq n s) := by
  induction n generalizing s a c with
  | zero => simp [endsWithin] at ends
  | succ n ih =>
    simp only [endsWithin, Bool.and_eq_true, decide_eq_true_eq] at ends
    obtain ⟨⟨⟨legal, calls⟩, captures⟩, rest⟩ := ends
    rw [runSeq_succ]
    rcases tick_progress legal (calls.trans answers) (captures.trans samples) with
      ⟨idle, records⟩ | ⟨e, reply, x, p, next, h⟩
    · rw [runSeq_idle n _ idle]
      exact ⟨idle, records⟩
    · rw [next, Option.all_some] at rest
      have answers' : a - callsOf s.micro ≤ (tick s).answers.length := by
        rw [h, State.goTo_answers, performed_answers_length]
        exact Nat.sub_le_sub_right answers _
      have samples' : c - samplesOf s.micro ≤ (tick s).samples.length := by
        rw [h, State.goTo_samples, performed_samples_length]
        exact Nat.sub_le_sub_right samples _
      have ended := ih answers' samples' (by simpa [h, State.micro] using rest)
      have records : (tick s).records = s.records := by rw [h, State.goTo_records, performed_records]
      rwa [EndedFrom, records] at ended

/-- An accepted operation that has as many answers and samples as its positions ask for ends with one record. -/
theorem accepted_ends {s latched : State} {i : Instr} {op : SeqOp} {a c : Nat} (acc : Accepted s i op latched)
    (hready : s.busy = false) (answers : a ≤ s.answers.length) (samples : c ≤ s.samples.length)
    (ends : endsWithin op (seqLength op) 1 0 a c = true) : EndsWithOneRecord i s := by
  obtain ⟨hanswers, hsamples⟩ : latched.answers = s.answers ∧ latched.samples = s.samples := by
    cases acc <;> exact ⟨rfl, rfl⟩
  obtain ⟨idle, c, records⟩ := endedFrom_runSeq (seqLength op) (s := latched.start op)
    (by rwa [State.start_answers, hanswers]) (by rwa [State.start_samples, hsamples]) ends
  have inv := seqInv_runSeq (seqLength op) (seqInv_start acc)
  refine ⟨_, c, exec_accepted acc, ?_⟩
  rw [operate_ready op latched s hready]
  exact ⟨by simpa [idle] using inv.busy_iff, idle, by rw [records, accepted_records acc]⟩

/-- Settles O55: the table of positions asks for no more than the statement gives. -/
theorem everyOperationTerminates : Obligations.EveryOperationTerminates := by
  intro s hready
  obtain ⟨noAnswers, noSamples⟩ : 0 ≤ s.answers.length ∧ 0 ≤ s.samples.length := ⟨Nat.zero_le _, Nat.zero_le _⟩
  exact ⟨fun reg h => accepted_ends (.rdraw reg) hready h noSamples (by decide),
    fun raw => accepted_ends (.zcap raw) hready noAnswers noSamples (by decide),
    fun raw force => accepted_ends (.calld raw force) hready noAnswers noSamples (by decide),
    fun raw => accepted_ends (.fconv raw) hready noAnswers noSamples (by decide),
    fun z k => accepted_ends (.setcal z k) hready noAnswers noSamples (by decide),
    fun a h => accepted_ends (.chaddr a) hready h noSamples (by decide),
    fun h => accepted_ends .rdforce hready h noSamples (by decide),
    fun h => accepted_ends .calib hready noAnswers h (by decide)⟩

/-! ## The state after construction -/

/-- An idle block without a command stays as it is for any number of steps (70_reset_and_hazards.md R181). -/
theorem reaches_self_of_idle (n : Nat) {s : State} (inv : SeqInv s) (hidle : s.seqOp = .idle) (hcmd : s.commands = []) :
    Reaches n s s := by
  simpa [runSeq_idle n s hidle] using reaches_runSeq n inv hcmd

/-- Settles O45: the values stand in the definition, and the state is idle with an empty command port. -/
theorem resetStateIsIdle : Obligations.ResetStateIsIdle := by
  intro a
  exact ⟨rfl, rfl, rfl, rfl, rfl, rfl, rfl, rfl, rfl, rfl,
    fun n => reaches_self_of_idle n (seqInv_construct a) rfl rfl, rfl⟩

/-- Settles O46: with offset 0 and sensitivity 1 the conversion gives the reading back. -/
theorem resetCalibrationIsTheIdentity : Obligations.ResetCalibrationIsTheIdentity := by
  intro a raw
  refine ⟨_, exec_accepted (.fconv raw), ?_⟩
  have force : forceOf raw 0 numOne = (raw.toNat : Rat) := by simp [forceOf, diff]
  rw [operate_ready _ _ _ rfl, ← force]
  rfl

end Sys2Proof.Sequencing
end

section
/-! PROOF of what a call leaves behind. The trace gains the one event of the row issued, with the bytes that the
invariant of the sequencer puts in it; a failed call ends the running operation, a completed drive of the line goes on. -/

namespace Sys2Proof.BusEvents

open Sys2Proof.Machine Sys2Proof.Config Sys2Proof.Claims Sys2Proof.Durations Sys2Proof.Sequencing

/-! ## Legal traces -/

section
variable {s t : State} {e : Event}

theorem traceLegal_congr (legal : TraceLegal s) (address : t.devAddr = s.devAddr) (trace : t.trace = s.trace) :
    TraceLegal t := by
  simpa [TraceLegal, address, trace] using legal

theorem traceLegal_append (legal : TraceLegal s) (he : e.Legal s.devAddr) (address : t.devAddr = s.devAddr)
    (trace : t.trace = s.trace ++ [e]) : TraceLegal t := by
  intro e' he'
  rw [trace, List.mem_append, List.mem_singleton] at he'
  rw [address]
  rcases he' with he' | rfl
  · exact legal e' he'
  · exact he

theorem traceLegal_advance (legal : TraceLegal s) : TraceLegal s.advance := by
  rcases advance_cases s with ⟨_, e⟩ | ⟨_, _, e⟩ | ⟨_, _, _, e⟩ | ⟨_, _, _, e⟩ <;> rw [e] <;> exact legal

theorem traceLegal_raiseError (legal : TraceLegal s) (status : Status) (failStep : BitVec 4) :
    TraceLegal (s.raiseError status failStep) := by
  by_cases hidle : s.seqOp = .idle
  · rwa [raiseError_idle s status failStep hidle]
  · rw [raiseError_running s status failStep hidle]; exact legal

/-- A computation adds no event. -/
theorem traceLegal_silent (legal : TraceLegal s) (address : t.devAddr = s.devAddr) (trace : t.trace = s.trace) :
    TraceLegal t.advance :=
  traceLegal_advance (traceLegal_congr legal address trace)

theorem traceLegal_call_failed (legal : TraceLegal s) (he : e.Legal s.devAddr) :
    TraceLegal (s.dropAnswer.emit e).raiseTransport := by
  have added : TraceLegal (s.dropAnswer.emit e) := traceLegal_append legal he rfl rfl
  exact traceLegal_raiseError added _ _

theorem traceLegal_call_done (legal : TraceLegal s) (he : e.Legal s.devAddr) (address : t.devAddr = s.devAddr)
    (trace : t.trace = s.trace ++ [e]) : TraceLegal t.advance :=
  traceLegal_advance (traceLegal_append legal he address trace)

end

/-! ## The word written -/

/-- A patched word has the shape of R135 in its high byte: the mask clears bits 14 to 10, the address reaches no higher
than bit 9, and the tag stands in bits 12 to 10. -/
theorem writableHighByte_patchWord (w : U16) (a : U7) : writableHighByte (highByte (patchWord w a)) = true := by
  have shape : highByte (patchWord w a) &&& 0x7C#8 = 0x0C#8 := by
    apply BitVec.eq_of_getLsbD_eq
    intro i hi
    simp only [BitVec.getLsbD_and, highByte, BitVec.getLsbD_extractLsb', patchWord_getLsbD]
    interval_cases i <;> simp [keepMask, modeTag]
  simp [writableHighByte, shape]

/-! ## The rows of one micro-step -/

/-- The micro-steps that address `T_OLD` (42_address_change.md R131). -/
def addressesOld : Micro → Bool
  | .enterCm | .reqWord2 | .fetchWord | .writeWord2 | .exitCm => true
  | _ => false

section
variable {op : SeqOp} {step : BitVec 4} {sub : BitVec 2} {m : Micro}

theorem op_of_addressesOld (hm : microAt op step sub = m) (row : addressesOld m = true) : op = .chaddr := by
  subst hm
  have legal : microAt op step sub ≠ .hold := by
    intro h
    simp [h, addressesOld] at row
  exact forall_positions (P := fun op step sub => addressesOld (microAt op step sub) = true → op = .chaddr)
    (by decide) legal row

/-- The write comes after the patch, which is step 5. -/
theorem writeWord2_position (hm : microAt op step sub = .writeWord2) : 6 ≤ step.toNat :=
  forall_positions (P := fun op step sub => microAt op step sub = .writeWord2 → 6 ≤ step.toNat)
    (by decide) (by simp [hm]) hm

end

section
variable {s : State}

/-- CHADDR addresses the handle's own device. -/
theorem old_eq_dev (inv : SeqInv s) {m : Micro} (hm : s.micro = m) (row : addressesOld m = true) :
    s.tOld = s.devAddr :=
  inv.old_address (op_of_addressesOld hm row)

/-- The word CHADDR writes is a patched one. -/
theorem writable_newWord (inv : SeqInv s) (hm : s.micro = .writeWord2) :
    writableHighByte (highByte s.newWord) = true := by
  rw [inv.patched (op_of_addressesOld hm rfl) (writeWord2_position hm)]
  exact writableHighByte_patchWord _ _

theorem traceLegal_issueSel (legal : TraceLegal s) (reg : Byte) : TraceLegal (issueSel reg s) := by
  rcases issueSel_cases reg s with ⟨_, e⟩ | ⟨_, _, e⟩ | ⟨_, _, _, e⟩ <;> rw [e]
  · exact legal
  · exact traceLegal_call_failed legal rfl
  · exact traceLegal_call_done (e := .sel s.devAddr reg .completed) legal rfl rfl rfl

theorem traceLegal_issueRd (legal : TraceLegal s) (reg : Byte) : TraceLegal (issueRd reg s) := by
  rcases issueRd_cases reg s with ⟨_, e⟩ | e | ⟨b0, b1, _, _, _, e⟩ <;> rw [e]
  · exact legal
  · exact traceLegal_call_failed legal ⟨rfl, .inl rfl, by simp⟩
  · exact traceLegal_call_done (e := .rd s.devAddr reg 2 (some [b0, b1])) legal ⟨rfl, .inl rfl, by simp⟩ rfl rfl

theorem traceLegal_issueFetch (legal : TraceLegal s) (old : s.tOld = s.devAddr) : TraceLegal (issueFetch s) := by
  rcases issueFetch_cases s with ⟨_, e⟩ | e | ⟨f0, f1, f2, _, _, _, e⟩ <;> rw [e]
  · exact legal
  · exact traceLegal_call_failed legal ⟨old, .inr ⟨rfl, rfl⟩, by simp⟩
  · exact traceLegal_call_done (e := .rd s.tOld regFetch 3 (some [f0, f1, f2])) legal
      ⟨old, .inr ⟨rfl, rfl⟩, by simp⟩ rfl rfl

theorem traceLegal_issuePin (legal : TraceLegal s) (level : BitVec 1) : TraceLegal (issuePin level s) := by
  rcases issuePin_cases level s with ⟨_, e⟩ | ⟨_, _, e⟩ | ⟨_, _, _, e⟩ <;> rw [e]
  · exact legal
  · exact traceLegal_call_failed legal trivial
  · exact traceLegal_call_done (e := .pin level .completed) legal trivial rfl rfl

theorem traceLegal_issueWr (legal : TraceLegal s) {cmd p0 p1 : Byte}
    (write : ∀ mark, (Event.wr s.tOld cmd p0 p1 mark).Legal s.devAddr) : TraceLegal (issueWr cmd p0 p1 s) := by
  rcases issueWr_cases cmd p0 p1 s with ⟨_, e⟩ | ⟨_, _, e⟩ | ⟨_, _, _, e⟩ <;> rw [e]
  · exact legal
  · exact traceLegal_call_failed legal (write .failed)
  · exact traceLegal_call_done legal (write .completed) rfl rfl

theorem traceLegal_captureZero (legal : TraceLegal s) : TraceLegal (captureZero s) := by
  unfold captureZero
  split
  · exact legal
  · exact traceLegal_silent legal rfl rfl

theorem traceLegal_captureLoad (legal : TraceLegal s) : TraceLegal (captureLoad s) := by
  unfold captureLoad
  split
  · exact legal
  · exact traceLegal_silent legal rfl rfl

theorem traceLegal_knownLoad (legal : TraceLegal s) : TraceLegal (knownLoad s) := by
  unfold knownLoad
  split
  · exact traceLegal_raiseError legal _ _
  · exact traceLegal_silent legal rfl rfl

end

/-! ## Every step keeps the trace legal -/

theorem traceLegal_tick (s : State) (inv : SeqInv s) (legal : TraceLegal s) : TraceLegal (tick s) := by
  unfold tick
  cases hm : s.micro with
  | sel => exact traceLegal_issueSel legal _
  | rd => exact traceLegal_issueRd legal _
  | enterCm => exact traceLegal_issueWr legal fun _ => ⟨old_eq_dev inv hm rfl, .inr ⟨.inl rfl, rfl, rfl⟩⟩
  | reqWord2 => exact traceLegal_issueWr legal fun _ => ⟨old_eq_dev inv hm rfl, .inr ⟨.inr (.inl rfl), rfl, rfl⟩⟩
  | fetchWord => exact traceLegal_issueFetch legal (old_eq_dev inv hm rfl)
  | writeWord2 =>
    exact traceLegal_issueWr legal fun _ => ⟨old_eq_dev inv hm rfl, .inl ⟨rfl, writable_newWord inv hm⟩⟩
  | exitCm => exact traceLegal_issueWr legal fun _ => ⟨old_eq_dev inv hm rfl, .inr ⟨.inr (.inr rfl), rfl, rfl⟩⟩
  | pin level => exact traceLegal_issuePin legal level
  | wait d => exact traceLegal_call_done (t := waitFor d s) (e := .wait d) legal trivial rfl rfl
  | combineRaw => exact traceLegal_congr legal rfl rfl
  | combineForce => exact traceLegal_silent (t := s.passReading) legal rfl rfl
  | convert => exact traceLegal_congr legal rfl rfl
  | zeroCapture => exact traceLegal_silent (t := s.zeroCapture) legal rfl rfl
  | knownLoad => exact traceLegal_knownLoad legal
  | setManual => exact traceLegal_silent (t := s.setManual) legal rfl rfl
  | captureZero => exact traceLegal_captureZero legal
  | captureLoad => exact traceLegal_captureLoad legal
  | patch => exact traceLegal_silent (t := s.patch) legal rfl rfl
  | hold => exact legal

/-- The trace of a run is legal, since the invariant goes along with it. -/
theorem traceLegal_runSeq (n : Nat) {s : State} (inv : SeqInv s) (legal : TraceLegal s) : TraceLegal (runSeq n s) :=
  (runSeq_induction (P := fun s => SeqInv s ∧ TraceLegal s)
    (fun s ⟨inv, legal⟩ => ⟨seqInv_tick s inv, traceLegal_tick s inv legal⟩) n ⟨inv, legal⟩).2

theorem traceLegal_accepted {s latched : State} {i : Instr} {op : SeqOp} (acc : Accepted s i op latched)
    (legal : TraceLegal s) : TraceLegal (latched.start op) := by
  cases acc <;> exact traceLegal_congr legal rfl rfl

/-- Settles O50: the invariant gives each row its address and WRITE_WORD2 its patched word, and an accepted operation
starts with the invariant. -/
theorem everyStepKeepsTheTraceLegal : Obligations.EveryStepKeepsTheTraceLegal := by
  intro s t inv legal h
  cases step_effect h with
  | busy => exact traceLegal_tick s inv legal
  | idle => exact legal
  | illegal hready =>
    rw [illegalCommand_ready (s := s.dropCommand) hready]
    exact traceLegal_congr legal rfl rfl
  | accepted _ _ acc =>
    have legalPort : TraceLegal s.dropCommand := traceLegal_congr legal rfl rfl
    exact traceLegal_runSeq _ (seqInv_start acc) (traceLegal_accepted acc legalPort)

/-! ## A failed call -/

/-- The answers on which a row fails: a failure for every row, and too few bytes for the two rows that read
(20_memory.md R46). -/
def Rejects (bad : Answer) (i : Instr) : Prop :=
  bad = .fail ∨ ∃ bytes, bad = .complete bytes ∧
    ((i = .busFetchWord ∧ bytes.length < 3) ∨ ((∃ reg, i = .busRdForce reg) ∧ bytes.length < 2))

/-- The state in which a rejected row leaves the block: idle, with the failed event and the record of the error. -/
def ended (s : State) (i : Instr) (rest : List Answer) : State :=
  { s with
    answers := rest, busy := false, seqOp := .idle, seqStep := 0, seqSub := 0
    trace := s.trace ++ failedEvents s i
    records := s.records ++
      [errRec (if s.seqOp = .chaddr then .protocolAborted else .transportError)
        (decide (s.seqOp = .chaddr) && s.wAck) s.seqStep] }

theorem reportedWarning_eq (s : State) : reportedWarning s = (decide (s.seqOp = .chaddr) && s.wAck) := by
  by_cases hop : s.seqOp = .chaddr
  · simp [reportedWarning, hop]
  · simp [reportedWarning_of_ne_chaddr hop, hop]

theorem dropAnswer_eq {s : State} {a : Answer} {rest : List Answer} (ha : s.answers = a :: rest) :
    s.dropAnswer = { s with answers := rest } := by
  rw [State.dropAnswer, ha, List.tail_cons]

section
variable {s : State} {i : Instr} {bad : Answer} {rest : List Answer}

/-- A row that reads nothing is rejected by a failure alone. -/
theorem eq_fail_of_rejects (h : Rejects bad i) (noFetch : i ≠ .busFetchWord) (noRead : ∀ reg, i ≠ .busRdForce reg) :
    bad = .fail := by
  rcases h with h | ⟨_, _, ⟨h, _⟩ | ⟨⟨reg, h⟩, _⟩⟩
  · exact h
  · exact absurd h noFetch
  · exact absurd h (noRead reg)

theorem issueSel_fail (ha : s.answers = .fail :: rest) (reg : Byte) :
    issueSel reg s = (s.dropAnswer.emit (.sel s.devAddr reg .failed)).raiseTransport := by
  simpa [ha] using issueSel_cases reg s

theorem issueWr_fail (ha : s.answers = .fail :: rest) (cmd p0 p1 : Byte) :
    issueWr cmd p0 p1 s = (s.dropAnswer.emit (.wr s.tOld cmd p0 p1 .failed)).raiseTransport := by
  simpa [ha] using issueWr_cases cmd p0 p1 s

theorem issuePin_fail (ha : s.answers = .fail :: rest) (level : BitVec 1) :
    issuePin level s = (s.dropAnswer.emit (.pin level .failed)).raiseTransport := by
  simpa [ha] using issuePin_cases level s

theorem issueRd_rejected {reg : Byte} (h : Rejects bad (.busRdForce reg)) (ha : s.answers = bad :: rest) :
    issueRd reg s = (s.dropAnswer.emit (.rd s.devAddr reg 2 none)).raiseTransport := by
  rcases issueRd_cases reg s with ⟨hnil, _⟩ | e | ⟨b0, b1, more, _, hdone, _⟩
  · simp [ha] at hnil
  · exact e
  · obtain ⟨rfl, rfl⟩ := List.cons_eq_cons.mp (ha.symm.trans hdone)
    simp [Rejects] at h

theorem issueFetch_rejected (h : Rejects bad .busFetchWord) (ha : s.answers = bad :: rest) :
    issueFetch s = (s.dropAnswer.emit (.rd s.tOld regFetch 3 none)).raiseTransport := by
  rcases issueFetch_cases s with ⟨hnil, _⟩ | e | ⟨f0, f1, f2, more, _, hdone, _⟩
  · simp [ha] at hnil
  · exact e
  · obtain ⟨rfl, rfl⟩ := List.cons_eq_cons.mp (ha.symm.trans hdone)
    have short : more.length + 1 + 1 + 1 < 3 := by simpa [Rejects] using h
    omega

/-- A rejected row adds its one event, marked `FAILED`, and raises the error of the transport. -/
theorem tick_of_rejects (hframe : s.nextFrame = some i) (h : Rejects bad i) (ha : s.answers = bad :: rest) :
    ∃ e, failedEvents s i = [e] ∧ tick s = (s.dropAnswer.emit e).raiseTransport := by
  unfold tick
  unfold State.nextFrame at hframe
  cases hm : s.micro <;> rw [hm] at hframe <;> cases hframe
  case rd => exact ⟨_, rfl, issueRd_rejected h ha⟩
  case fetchWord => exact ⟨_, rfl, issueFetch_rejected h ha⟩
  all_goals obtain rfl := eq_fail_of_rejects h (by simp) (by simp)
  case sel => exact ⟨_, rfl, issueSel_fail ha _⟩
  case pin => exact ⟨_, rfl, issuePin_fail ha _⟩
  all_goals exact ⟨_, rfl, issueWr_fail ha _ _ _⟩

theorem tick_eq_ended (running : s.seqOp ≠ .idle) (hframe : s.nextFrame = some i) (h : Rejects bad i)
    (ha : s.answers = bad :: rest) : tick s = ended s i rest := by
  obtain ⟨e, event, htick⟩ := tick_of_rejects hframe h ha
  have running' : (s.dropAnswer.emit e).seqOp ≠ .idle := running
  rw [htick, State.raiseTransport, raiseError_running _ _ _ running', errorRecord, reportedWarning_eq,
    dropAnswer_eq ha, ended, event]
  rfl

/-- Nothing follows a rejected row. -/
theorem runSeq_eq_ended (n : Nat) (running : s.seqOp ≠ .idle) (hframe : s.nextFrame = some i) (h : Rejects bad i)
    (ha : s.answers = bad :: rest) : runSeq (n + 1) s = ended s i rest := by
  rw [runSeq_succ, tick_eq_ended running hframe h ha, runSeq_idle n _ rfl]

end

/-- Settles O40: the row issued does the micro-step, which the rejecting answer makes the end of the operation. -/
theorem failedFrameEndsTheOperation : Obligations.FailedFrameEndsTheOperation := by
  intro s i bad rest running hframe h ha
  rw [exec_nextFrame s i hframe, tick_eq_ended running hframe h ha]
  rfl

/-! ## A completed call -/

/-- Where the table has a next position, the advance goes there. -/
theorem advance_eq_goTo {s : State} {p : BitVec 4 × BitVec 2} (running : s.seqOp ≠ .idle)
    (next : nextPosition s.seqOp s.seqStep s.seqSub = some p) : s.advance = s.goTo p.1 p.2 := by
  rcases advance_nextPosition s running with ⟨q, h, e⟩ | ⟨h, _⟩
  · obtain rfl := Option.some_inj.mp (next.symm.trans h)
    exact e
  · simp [next] at h

theorem issuePin_complete {s : State} {x : List Byte} {rest : List Answer} (ha : s.answers = .complete x :: rest)
    (level : BitVec 1) : issuePin level s = ((s.dropAnswer.emit (.pin level .completed)).setPwr level).advance := by
  simpa [ha] using issuePin_cases level s

theorem issueSel_complete {s : State} {x : List Byte} {rest : List Answer} (ha : s.answers = .complete x :: rest)
    (reg : Byte) : issueSel reg s = (s.dropAnswer.emit (.sel s.devAddr reg .completed)).advance := by
  simpa [ha] using issueSel_cases reg s

/-- The edges of a power cycle stand at sub-positions 0 and 2, each before its wait (42_address_change.md R118, R126). -/
theorem nextPosition_of_edge {step : BitVec 4} {sub : BitVec 2} (hstep : step = 1 ∨ step = 8)
    (hsub : sub = 0 ∨ sub = 2) : nextPosition .chaddr step sub = some (step, sub + 1) := by
  rcases hstep with rfl | rfl <;> rcases hsub with rfl | rfl <;> rfl

/-- Settles O39: a completed drive of the line sets `PWR`, and the table has its wait at the next sub-position. -/
theorem pinFrameDrivesTheLine : Obligations.PinFrameDrivesTheLine := by
  intro s v x rest hop hstep hsub ha
  have running : s.seqOp ≠ .idle := by simp [hop]
  have next : nextPosition s.seqOp s.seqStep s.seqSub = some (s.seqStep, s.seqSub + 1) := by
    rw [hop]; exact nextPosition_of_edge hstep hsub
  have advance : ((s.dropAnswer.emit (.pin v .completed)).setPwr v).advance = _ := advance_eq_goTo running next
  change Host.Outcome.next (issuePin v s) = _
  rw [issuePin_complete ha, advance, dropAnswer_eq ha]
  rfl

/-! ## The raw read up to its failure -/

/-- A wait that is not the last micro-step of its operation. -/
theorem tick_wait {s : State} {d : Delay} {p : BitVec 4 × BitVec 2} (hm : s.micro = .wait d)
    (next : nextPosition s.seqOp s.seqStep s.seqSub = some p) : tick s = (s.emit (.wait d)).goTo p.1 p.2 := by
  have running : s.seqOp ≠ .idle := running_of_micro hm (by simp)
  have advance : (s.emit (.wait d)).advance = _ := advance_eq_goTo running next
  rw [tick, hm]
  exact advance

/-- The first two positions of a raw read, by itself or inside RDFORCE. -/
theorem select_positions {op : SeqOp} (hop : op = .rdraw ∨ op = .rdforce) :
    microAt op 1 0 = .sel ∧ nextPosition op 1 0 = some (2, 0) ∧
      microAt op 2 0 = .wait .tSel ∧ nextPosition op 2 0 = some (3, 0) := by
  rcases hop with rfl | rfl <;> decide

/-- The state after the completed select of a raw read: its event, and the wait is next (40_raw_read.md R91). -/
def selected (s : State) : State :=
  (s.dropAnswer.emit (.sel s.devAddr s.tReg .completed)).goTo 2 0

section
variable {s : State} {x : List Byte} {rest : List Answer} (hop : s.seqOp = .rdraw ∨ s.seqOp = .rdforce)
include hop

theorem tick_select (hstep : s.seqStep = 1) (hsub : s.seqSub = 0) (ha : s.answers = .complete x :: rest) :
    tick s = selected s := by
  obtain ⟨sel, afterSel, _, _⟩ := select_positions hop
  have hm : s.micro = .sel := by rw [State.micro, hstep, hsub]; exact sel
  have next : nextPosition s.seqOp s.seqStep s.seqSub = some (2, 0) := by rw [hstep, hsub]; exact afterSel
  have advance : (s.dropAnswer.emit (.sel s.devAddr s.tReg .completed)).advance = selected s :=
    advance_eq_goTo (s := s.dropAnswer.emit _) (running_of_micro hm (by simp)) next
  rw [tick, hm, runMicro, issueSel_complete ha, advance]

theorem tick_selected : tick (selected s) = ((selected s).emit (.wait .tSel)).goTo 3 0 := by
  obtain ⟨_, _, wait, next⟩ := select_positions hop
  exact tick_wait (s := selected s) wait next

/-- The select of a raw read, completed, and its wait (R91, R92). -/
theorem run_select (hstep : s.seqStep = 1) (hsub : s.seqSub = 0) (ha : s.answers = .complete x :: rest) :
    runSeq 2 s = { s with
      answers := rest, seqStep := 3
      trace := s.trace ++ [.sel s.devAddr s.tReg .completed, .wait .tSel] } := by
  rw [runSeq_succ, runSeq_succ, runSeq_zero, tick_select hop hstep hsub ha, tick_selected hop]
  simp [selected, dropAnswer_eq ha, State.emit, State.goTo, hsub]

end

/-- An accepted RDRAW starts at its first step, with the register latched. -/
theorem exec_rdraw_ready {s : State} (hready : s.busy = false) (reg : Byte) :
    exec (.rdraw reg) s = .next (runSeq 4 ((s.latchReg reg).start .rdraw)) := by
  rw [exec_accepted (.rdraw reg), operate_ready _ _ _ hready]
  rfl

/-- Settles O13: the select or, after it and its wait, the read is rejected, and nothing follows. -/
theorem rdrawFailureEndsAtTheFailedEvent : Obligations.RdrawFailureEndsAtTheFailedEvent := by
  intro s reg rest hready
  have running : SeqOp.rdraw ≠ .idle := by decide
  refine ⟨fun ha => ?_, fun x bad h ha => ?_⟩
  · have run := runSeq_eq_ended (s := (s.latchReg reg).start .rdraw) 3 running rfl (.inl rfl) ha
    exact ⟨_, (exec_rdraw_ready hready reg).trans (congrArg _ run), rfl, rfl, ⟨rfl, rfl, rfl, rfl⟩, rfl, rfl, rfl⟩
  · have rejects : Rejects bad (.busRdForce reg) := by simpa [Rejects] using h
    have select := run_select (s := (s.latchReg reg).start .rdraw) (.inl rfl) rfl rfl ha
    have run : runSeq 4 ((s.latchReg reg).start .rdraw) = _ :=
      (runSeq_add 2 2 _).trans ((congrArg _ select).trans (runSeq_eq_ended 1 running rfl rejects rfl))
    exact ⟨_, (exec_rdraw_ready hready reg).trans (congrArg _ run), by simp [ended, failedEvents], rfl,
      ⟨rfl, rfl, rfl, rfl⟩, rfl, rfl, rfl⟩

end Sys2Proof.BusEvents
end

section
/-! PROOF of the encodings. A header is its fields side by side, so what the decoder cuts out of it is what the encoder
puts together, in both directions; the words of the protocol are their fields side by side in the same way. -/

namespace Sys2Proof.Encoding

open Sys2Proof.Machine Sys2Proof.Config Sys2Proof.Claims Sys2Proof.Sequencing Sys2Proof.BusEvents

/-! ## The reserved headers

The ports `reg`, `raw`, `num` and `addr` are those of any command: a reserved row ignores them (30_encoding.md R80). -/

section
variable (reg : Byte) (raw : U16) (num : Sys2Proof.Num) (addr : U7)

theorem decodeHost_zero : decodeHost ⟨0x00, reg, raw, num, addr⟩ = .reserved00 := by
  simp [decodeHost]

theorem decodeHost_nine : decodeHost ⟨0x09, reg, raw, num, addr⟩ = .reserved09 := by
  simp [decodeHost]

theorem decodeHost_0A0B (b : BitVec 1) : decodeHost ⟨0b0000101#7 ++ b, reg, raw, num, addr⟩ = .reserved0A0B b := by
  have values : ∀ b : BitVec 1, b = 0 ∨ b = 1 := by decide
  rcases values b with rfl | rfl <;> simp [decodeHost]

theorem decodeHost_0C0F (x : BitVec 2) : decodeHost ⟨0b000011#6 ++ x, reg, raw, num, addr⟩ = .reserved0C0F x := by
  have values : ∀ x : BitVec 2, x = 0 ∨ x = 1 ∨ x = 2 ∨ x = 3 := by decide
  rcases values x with rfl | rfl | rfl | rfl <;> simp [decodeHost]

theorem getLsbD_append_add {v w : Nat} (x : BitVec v) (y : BitVec w) (i : Nat) :
    (x ++ y).getLsbD (w + i) = x.getLsbD i := by
  simp [BitVec.getLsbD_append]

/-- The row of a header with one of bits 7 to 4 set depends on its high half; the low half stays free (R81). -/
theorem decodeReservedHigh_append (n lo : BitVec 4) :
    decodeReservedHigh (n ++ lo) =
      if n.getLsbD 0 then .reservedBit4 (n.extractLsb' 1 3) lo
      else if n.getLsbD 1 then .reservedBit5 (n.extractLsb' 2 2) lo
      else if n.getLsbD 2 then .reservedBit6 (n.extractLsb' 3 1) lo
      else .reservedBit7 lo := by
  have bit (i : Nat) : (n ++ lo).getLsbD (4 + i) = n.getLsbD i := getLsbD_append_add n lo i
  have field (i len : Nat) : (n ++ lo).extractLsb' (4 + i) len = n.extractLsb' i len := by
    rw [BitVec.extractLsb'_append_eq_of_le (Nat.le_add_right 4 i), Nat.add_sub_cancel_left]
  have low : (n ++ lo).extractLsb' 0 4 = lo := BitVec.extractLsb'_append_eq_right
  rw [decodeReservedHigh, low, ← bit 0, ← bit 1, ← bit 2, ← field 1, ← field 2, ← field 3]

theorem decodeHost_append {n : BitVec 4} (nonzero : n ≠ 0#4) (lo : BitVec 4) :
    decodeHost ⟨n ++ lo, reg, raw, num, addr⟩ = decodeReservedHigh (n ++ lo) := by
  have high : (n ++ lo).extractLsb' 4 4 = n := BitVec.extractLsb'_append_eq_left
  exact if_neg (high.symm ▸ nonzero)

theorem decodeHost_bit4 (hi : BitVec 3) (lo : BitVec 4) :
    decodeHost ⟨hi ++ 0b1#1 ++ lo, reg, raw, num, addr⟩ = .reservedBit4 hi lo := by
  have bits : ∀ hi : BitVec 3, hi ++ 0b1#1 ≠ 0#4 ∧ (hi ++ 0b1#1).getLsbD 0 = true := by decide
  have field : (hi ++ 0b1#1).extractLsb' 1 3 = hi := BitVec.extractLsb'_append_eq_left
  obtain ⟨nonzero, bit4⟩ := bits hi
  rw [decodeHost_append _ _ _ _ nonzero, decodeReservedHigh_append, if_pos bit4, field]

theorem decodeHost_bit5 (hi : BitVec 2) (lo : BitVec 4) :
    decodeHost ⟨hi ++ 0b10#2 ++ lo, reg, raw, num, addr⟩ = .reservedBit5 hi lo := by
  have bits : ∀ hi : BitVec 2, hi ++ 0b10#2 ≠ 0#4 ∧ ¬ (hi ++ 0b10#2).getLsbD 0 = true ∧
      (hi ++ 0b10#2).getLsbD 1 = true := by decide
  have field : (hi ++ 0b10#2).extractLsb' 2 2 = hi := BitVec.extractLsb'_append_eq_left
  obtain ⟨nonzero, bit4, bit5⟩ := bits hi
  rw [decodeHost_append _ _ _ _ nonzero, decodeReservedHigh_append, if_neg bit4, if_pos bit5, field]

theorem decodeHost_bit6 (hi : BitVec 1) (lo : BitVec 4) :
    decodeHost ⟨hi ++ 0b100#3 ++ lo, reg, raw, num, addr⟩ = .reservedBit6 hi lo := by
  have bits : ∀ hi : BitVec 1, hi ++ 0b100#3 ≠ 0#4 ∧ ¬ (hi ++ 0b100#3).getLsbD 0 = true ∧
      ¬ (hi ++ 0b100#3).getLsbD 1 = true ∧ (hi ++ 0b100#3).getLsbD 2 = true := by decide
  have field : (hi ++ 0b100#3).extractLsb' 3 1 = hi := BitVec.extractLsb'_append_eq_left
  obtain ⟨nonzero, bit4, bit5, bit6⟩ := bits hi
  rw [decodeHost_append _ _ _ _ nonzero, decodeReservedHigh_append, if_neg bit4, if_neg bit5, if_pos bit6, field]

theorem decodeHost_bit7 (lo : BitVec 4) : decodeHost ⟨0b1000#4 ++ lo, reg, raw, num, addr⟩ = .reservedBit7 lo := by
  rw [decodeHost_append _ _ _ _ (by decide), decodeReservedHigh_append]
  rfl

end

/-! ## Decoding and encoding -/

/-- Settles O1: a low half of 1 to 8 under a zero high half. -/
theorem operationHeadersSelectTheirOperations : Obligations.OperationHeadersSelectTheirOperations := by
  intro reg raw num addr
  refine ⟨?_, ?_, ?_, ?_, ?_, ?_, ?_, ?_⟩ <;> simp [decode, decodeHost]

/-- Settles O3: the rows with free header bits by what the decoder cuts out of them, the operations by their headers,
the bus rows by evaluation. -/
theorem decodeOfEncodeIsTheInstruction : Obligations.DecodeOfEncodeIsTheInstruction := by
  intro i _
  cases i with
  | reserved0A0B b => exact congrArg Except.ok (decodeHost_0A0B _ _ _ _ b)
  | reserved0C0F x => exact congrArg Except.ok (decodeHost_0C0F _ _ _ _ x)
  | reservedBit4 hi lo => exact congrArg Except.ok (decodeHost_bit4 _ _ _ _ hi lo)
  | reservedBit5 hi lo => exact congrArg Except.ok (decodeHost_bit5 _ _ _ _ hi lo)
  | reservedBit6 hi lo => exact congrArg Except.ok (decodeHost_bit6 _ _ _ _ hi lo)
  | reservedBit7 lo => exact congrArg Except.ok (decodeHost_bit7 _ _ _ _ lo)
  | rdraw | zcap | calld | fconv | setcal | chaddr => simp [encode, decode, decodeHost]
  | rdforce | calib | reserved00 | reserved09 => rfl
  | busSelForce | busRdForce | busEnterCm | busReqWord2 | busFetchWord | busWriteWord2 | busExitCm | busPin => rfl

/-- The forms of a header: one of the eight operations, or a reserved row with its free bits (R79, R81). -/
inductive HeaderForm : Byte → Prop
  | operation {hdr : Byte} (least : 1 ≤ hdr.toNat) (greatest : hdr.toNat ≤ 8) : HeaderForm hdr
  | zero : HeaderForm 0x00
  | nine : HeaderForm 0x09
  | lowBit (b : BitVec 1) : HeaderForm (0b0000101#7 ++ b)
  | lowBits (x : BitVec 2) : HeaderForm (0b000011#6 ++ x)
  | bit4 (hi : BitVec 3) (lo : BitVec 4) : HeaderForm (hi ++ 0b1#1 ++ lo)
  | bit5 (hi : BitVec 2) (lo : BitVec 4) : HeaderForm (hi ++ 0b10#2 ++ lo)
  | bit6 (hi : BitVec 1) (lo : BitVec 4) : HeaderForm (hi ++ 0b100#3 ++ lo)
  | bit7 (lo : BitVec 4) : HeaderForm (0b1000#4 ++ lo)

/-- A header with a zero high half. -/
theorem headerForm_low (lo : BitVec 4) : HeaderForm (0#4 ++ lo) := by
  have values : ∀ lo : BitVec 4, (1 ≤ (0#4 ++ lo).toNat ∧ (0#4 ++ lo).toNat ≤ 8) ∨ lo = 0 ∨ lo = 9 ∨
      (∃ b : BitVec 1, lo = 0b101#3 ++ b) ∨ ∃ x : BitVec 2, lo = 0b11#2 ++ x := by decide
  rcases values lo with ⟨least, greatest⟩ | rfl | rfl | ⟨b, rfl⟩ | ⟨x, rfl⟩
  · exact .operation least greatest
  · exact .zero
  · exact .nine
  · have assoc : ∀ b : BitVec 1, 0#4 ++ (0b101#3 ++ b) = 0b0000101#7 ++ b := by decide
    exact assoc b ▸ .lowBit b
  · have assoc : ∀ x : BitVec 2, 0#4 ++ (0b11#2 ++ x) = 0b000011#6 ++ x := by decide
    exact assoc x ▸ .lowBits x

/-- A header with one of bits 7 to 4 set; the lowest of them gives its form (R81; log 11). -/
theorem headerForm_high {n : BitVec 4} (nonzero : n ≠ 0#4) (lo : BitVec 4) : HeaderForm (n ++ lo) := by
  have values : ∀ n : BitVec 4, n ≠ 0#4 → (∃ hi : BitVec 3, n = hi ++ 0b1#1) ∨ (∃ hi : BitVec 2, n = hi ++ 0b10#2) ∨
      (∃ hi : BitVec 1, n = hi ++ 0b100#3) ∨ n = 0b1000#4 := by decide
  rcases values n nonzero with ⟨hi, rfl⟩ | ⟨hi, rfl⟩ | ⟨hi, rfl⟩ | rfl
  · exact .bit4 hi lo
  · exact .bit5 hi lo
  · exact .bit6 hi lo
  · exact .bit7 lo

theorem headerForm (hdr : Byte) : HeaderForm hdr := by
  have halves : hdr.extractLsb' 4 4 ++ hdr.extractLsb' 0 4 = hdr := BitVec.extractLsb'_append_extractLsb'
  rw [← halves]
  by_cases high : hdr.extractLsb' 4 4 = 0#4
  · rw [high]
    exact headerForm_low _
  · exact headerForm_high high _

theorem operation_header_cases {hdr : Byte} (least : 1 ≤ hdr.toNat) (greatest : hdr.toNat ≤ 8) :
    hdr = 0x01 ∨ hdr = 0x02 ∨ hdr = 0x03 ∨ hdr = 0x04 ∨ hdr = 0x05 ∨ hdr = 0x06 ∨ hdr = 0x07 ∨ hdr = 0x08 := by
  bv_omega

/-- The commands with the headers 1 to 8 are operations, and their rows are encoded with the same headers (R79). -/
theorem operation_row (c : HostCmd) (least : 1 ≤ c.hdr.toNat) (greatest : c.hdr.toNat ≤ 8) :
    ∃ i, decodeHost c = i ∧ (∀ s, ∃ op latched, Accepted s i op latched) ∧
      ∃ c', encode i = .host c' ∧ c'.hdr = c.hdr := by
  obtain ⟨hdr, reg, raw, num, addr⟩ := c
  obtain ⟨rdraw, zcap, calld, fconv, setcal, chaddr, rdforce, calib⟩ :=
    operationHeadersSelectTheirOperations reg raw num addr
  rcases operation_header_cases least greatest with rfl | rfl | rfl | rfl | rfl | rfl | rfl | rfl
  · exact ⟨_, Except.ok.inj rdraw, fun _ => ⟨_, _, .rdraw reg⟩, _, rfl, rfl⟩
  · exact ⟨_, Except.ok.inj zcap, fun _ => ⟨_, _, .zcap raw⟩, _, rfl, rfl⟩
  · exact ⟨_, Except.ok.inj calld, fun _ => ⟨_, _, .calld raw num⟩, _, rfl, rfl⟩
  · exact ⟨_, Except.ok.inj fconv, fun _ => ⟨_, _, .fconv raw⟩, _, rfl, rfl⟩
  · exact ⟨_, Except.ok.inj setcal, fun _ => ⟨_, _, .setcal raw num⟩, _, rfl, rfl⟩
  · exact ⟨_, Except.ok.inj chaddr, fun _ => ⟨_, _, .chaddr addr⟩, _, rfl, rfl⟩
  · exact ⟨_, Except.ok.inj rdforce, fun _ => ⟨_, _, .rdforce⟩, _, rfl, rfl⟩
  · exact ⟨_, Except.ok.inj calib, fun _ => ⟨_, _, .calib⟩, _, rfl, rfl⟩

/-- The header that a command's row is encoded with is the command's. -/
theorem encode_decodeHost_hdr (c : HostCmd) : ∃ c' : HostCmd, encode (decodeHost c) = .host c' ∧ c'.hdr = c.hdr := by
  obtain ⟨hdr, reg, raw, num, addr⟩ := c
  cases headerForm hdr with
  | operation least greatest =>
    obtain ⟨_, row, _, header⟩ := operation_row ⟨hdr, reg, raw, num, addr⟩ least greatest
    rwa [row]
  | zero => exact ⟨_, congrArg encode (decodeHost_zero ..), rfl⟩
  | nine => exact ⟨_, congrArg encode (decodeHost_nine ..), rfl⟩
  | lowBit b => exact ⟨_, congrArg encode (decodeHost_0A0B _ _ _ _ b), rfl⟩
  | lowBits x => exact ⟨_, congrArg encode (decodeHost_0C0F _ _ _ _ x), rfl⟩
  | bit4 hi lo => exact ⟨_, congrArg encode (decodeHost_bit4 _ _ _ _ hi lo), rfl⟩
  | bit5 hi lo => exact ⟨_, congrArg encode (decodeHost_bit5 _ _ _ _ hi lo), rfl⟩
  | bit6 hi lo => exact ⟨_, congrArg encode (decodeHost_bit6 _ _ _ _ hi lo), rfl⟩
  | bit7 lo => exact ⟨_, congrArg encode (decodeHost_bit7 _ _ _ _ lo), rfl⟩

theorem decodeZeroPayload_eq_ok {i j : Instr} {cmd p0 p1 : Byte} (h : decodeZeroPayload i cmd p0 p1 = .ok j) :
    i = j ∧ p0 = 0 ∧ p1 = 0 := by
  unfold decodeZeroPayload at h
  split at h
  · next zero => exact ⟨Except.ok.inj h, zero⟩
  · cases h

/-- A frame that decodes is the frame its row is encoded as. -/
theorem encode_of_decodeFrame {f : Frame} {i : Instr} (h : decodeFrame f = .ok i) : encode i = .bus f := by
  cases f with
  | sel reg => cases h; rfl
  | rd reg n =>
    simp only [decodeFrame] at h
    split_ifs at h with two three
    · cases h; rw [two]; rfl
    · obtain ⟨rfl, rfl⟩ := three
      cases h; rfl
  | wr3 cmd p0 p1 =>
    simp only [decodeFrame] at h
    split_ifs at h with write enter request exit
    · cases h; rw [write]; rfl
    · obtain ⟨rfl, rfl, rfl⟩ := decodeZeroPayload_eq_ok h
      rw [enter]; rfl
    · obtain ⟨rfl, rfl, rfl⟩ := decodeZeroPayload_eq_ok h
      rw [request]; rfl
    · obtain ⟨rfl, rfl, rfl⟩ := decodeZeroPayload_eq_ok h
      rw [exit]; rfl
  | pin level => cases h; rfl

/-- Settles O4: frames by the formats of the table, headers by their form. -/
theorem encodeOfDecodeKeepsTheWords : Obligations.EncodeOfDecodeKeepsTheWords :=
  ⟨fun _ _ h => encode_of_decodeFrame h, encode_decodeHost_hdr⟩

/-- Settles O5: the encoder's rows as they are written. -/
theorem busFramesAreBitExact : Obligations.BusFramesAreBitExact :=
  ⟨fun _ => ⟨rfl, rfl⟩, fun _ => rfl, rfl, rfl, rfl, rfl, fun _ _ => rfl, rfl, fun _ => rfl⟩

/-- Settles O6: seven numbers of the table, evaluated. -/
theorem wordsOfTheTableDecode : Obligations.WordsOfTheTableDecode :=
  ⟨rfl, rfl, rfl, rfl, rfl, rfl, rfl⟩

/-! ## IllegalCommand -/

/-- Settles O34: every reserved row is the one operation that appends the record. -/
theorem reservedRowsReportIllegalCommand : Obligations.ReservedRowsReportIllegalCommand := by
  intro s b x hi3 hi2 hi1 lo hready
  refine ⟨?_, ?_, ?_, ?_, ?_, ?_, ?_, ?_⟩ <;> exact congrArg Host.Outcome.next (illegalCommand_ready hready)

/-- How many of the records delivered so far report IllegalCommand. -/
def illegalCount (s : State) : Nat :=
  s.records.countP fun c => c.status == .illegalCommand

section
variable (s : State)

theorem illegalCount_deliver {c : Completion} (h : c.status ≠ .illegalCommand) :
    illegalCount (s.deliver c) = illegalCount s := by
  simp [illegalCount, h]

theorem illegalCount_raiseError {status : Status} (h : status ≠ .illegalCommand) (failStep : BitVec 4) :
    illegalCount (s.raiseError status failStep) = illegalCount s := by
  unfold State.raiseError
  split
  · rfl
  · exact illegalCount_deliver s h

theorem illegalCount_complete (raw : Option U16) (num : Option Sys2Proof.Num) :
    illegalCount (s.complete raw num) = illegalCount s :=
  illegalCount_deliver s (c := okRecord s raw num) (by simp [okRecord])

theorem illegalCount_advance : illegalCount s.advance = illegalCount s := by
  rcases advance_cases s with ⟨_, e⟩ | ⟨_, _, e⟩ | ⟨_, _, _, e⟩ | ⟨_, _, _, e⟩ <;> rw [e]
  · rfl
  · rfl
  · exact illegalCount_complete s _ _

/-- No micro-step of an operation reports IllegalCommand. -/
theorem illegalCount_tick : illegalCount (tick s) = illegalCount s := by
  generalize ht : tick s = t
  cases ht ▸ tick_effect s with
  | unanswered => rfl
  | hold => rfl
  | failed _ e =>
    have transport : transportStatus (s.dropAnswer.emit e).seqOp ≠ .illegalCommand := by
      unfold transportStatus
      split <;> decide
    exact illegalCount_raiseError (s.dropAnswer.emit e) transport _
  | degenerate => exact illegalCount_raiseError s (by decide) _
  | combined => exact illegalCount_complete s _ _
  | converted => exact illegalCount_complete s _ _
  | advanced _ e reply x =>
    rw [illegalCount_advance, illegalCount, performed_records]
    rfl

end

/-- An operation never ends as a reserved header does. -/
theorem exec_accepted_ne_illegal {s latched : State} {i : Instr} {op : SeqOp} (acc : Accepted s i op latched) :
    exec i s ≠ .next { s with records := s.records ++ [errRec .illegalCommand false 0] } := by
  intro h
  have latch : illegalCount (latched.start op) = illegalCount s := by rw [illegalCount, accepted_records acc]; rfl
  have same := accepted_keeps illegalCount acc h latch fun u _ => illegalCount_tick u
  simp [illegalCount, errRec] at same

/-- The rows of the eight operations are encoded with the headers 1 to 8. -/
theorem hdr_of_accepted {s latched : State} {i : Instr} {op : SeqOp} {c : HostCmd} (acc : Accepted s i op latched)
    (h : encode i = .host c) : 1 ≤ c.hdr.toNat ∧ c.hdr.toNat ≤ 8 := by
  cases acc <;> cases h <;> simp

/-- Settles O2: the headers 1 to 8 are accepted as operations, which report something else, and no other header is. -/
theorem reservedHeadersAreExactlyTheOthers : Obligations.ReservedHeadersAreExactlyTheOthers := by
  intro c s hready
  constructor
  · rintro h ⟨least, greatest⟩
    obtain ⟨_, rfl, accepted, _⟩ := operation_row c least greatest
    obtain ⟨op, latched, acc⟩ := accepted s
    exact exec_accepted_ne_illegal acc h
  · intro reserved
    rcases exec_decodeHost_cases c s with h | ⟨op, latched, acc⟩
    · rw [h, illegalCommand_ready hready]
    · obtain ⟨c', hencode, hhdr⟩ := encode_decodeHost_hdr c
      exact absurd (hhdr ▸ hdr_of_accepted acc hencode) reserved

end Sys2Proof.Encoding
end

section
/-! PROOF of the word formats. The fields of the patched word are read off its bits once; what is said of payloads and
of patching twice is said of these fields. A raw reading is its two bytes side by side. -/

namespace Sys2Proof.Words

open Sys2Proof.Machine Sys2Proof.Config Sys2Proof.Claims Sys2Proof.Durations Sys2Proof.Sequencing Sys2Proof.BusEvents

/-! ## The patched word -/

/-- Settles O7: the mask keeps bits 15 and 2 to 0, the address stands in bits 9 to 3 and the tag in bits 12 to 10. -/
theorem patchedWordFields : Obligations.PatchedWordFields := by
  intro w a
  refine ⟨?_, ?_, ?_, ?_, ?_⟩ <;> refine BitVec.eq_of_getLsbD_eq fun i hi => ?_ <;>
    simp only [BitVec.getLsbD_extractLsb', patchWord_getLsbD] <;> interval_cases i <;> simp [keepMask, modeTag]

/-- A word is its five fields side by side (30_encoding.md R75). -/
theorem fields_append (w : U16) :
    w.extractLsb' 15 1 ++ w.extractLsb' 13 2 ++ w.extractLsb' 10 3 ++ w.extractLsb' 3 7 ++ w.extractLsb' 0 3 = w := by
  iterate 4 rw [BitVec.extractLsb'_append_extractLsb'_eq_extractLsb']
  · exact BitVec.extractLsb'_eq_self
  all_goals rfl

theorem patchWord_eq_append (w : U16) (a : U7) :
    patchWord w a = w.extractLsb' 15 1 ++ 0b00#2 ++ 0b011#3 ++ a ++ w.extractLsb' 0 3 := by
  obtain ⟨top, clear, tag, address, low⟩ := patchedWordFields w a
  have fields := fields_append (patchWord w a)
  rw [top, clear, tag, address, low] at fields
  exact fields.symm

/-- Settles O8: the two kept fields of a patched word are those of the word. -/
theorem lastPatchWins : Obligations.LastPatchWins := by
  intro w a b
  obtain ⟨top, _, _, _, low⟩ := patchedWordFields w a
  rw [patchWord_eq_append (patchWord w a) b, top, low, ← patchWord_eq_append]

theorem extractLsb'_extractLsb'_add {n start len : Nat} (x : BitVec n) {start' len' : Nat} (h : start' + len' ≤ len) :
    (x.extractLsb' start len).extractLsb' start' len' = x.extractLsb' (start + start') len' := by
  ext i hi
  have inside : start' + i < len := by omega
  simp [inside, Nat.add_assoc]

/-- The high byte of a word: its top field, the two fields after it, and the upper part of the address field. -/
theorem highByte_eq_append (w : U16) :
    highByte w = w.extractLsb' 15 1 ++ (w.extractLsb' 13 2 ++ w.extractLsb' 10 3) ++
      (w.extractLsb' 3 7).extractLsb' 5 2 := by
  rw [extractLsb'_extractLsb'_add w (by decide)]
  iterate 3 rw [BitVec.extractLsb'_append_extractLsb'_eq_extractLsb']
  all_goals rfl

/-- The low byte of a word: the lower part of the address field and the low field. -/
theorem lowByte_eq_append (w : U16) : lowByte w = (w.extractLsb' 3 7).extractLsb' 0 5 ++ w.extractLsb' 0 3 := by
  rw [extractLsb'_extractLsb'_add w (by decide), BitVec.extractLsb'_append_extractLsb'_eq_extractLsb']
  all_goals rfl

/-- Settles O9: the fields of the patched word, cut at the byte boundary; the kept ones are those of `F0` and `F2`. -/
theorem payloadHoldsTheKeptReplyBits : Obligations.PayloadHoldsTheKeptReplyBits := by
  intro f0 f2 a
  obtain ⟨top, clear, tag, address, low⟩ := patchedWordFields (fetchedWord f0 f2) a
  have keptTop : (fetchedWord f0 f2).extractLsb' 15 1 = f0.extractLsb' 7 1 := by
    rw [fetchedWord_eq_append]; exact BitVec.extractLsb'_append_eq_of_le (by decide)
  have keptLow : (fetchedWord f0 f2).extractLsb' 0 3 = f2.extractLsb' 0 3 := by
    rw [fetchedWord_eq_append]; exact BitVec.extractLsb'_append_eq_of_add_le (by decide)
  rw [highByte_eq_append, lowByte_eq_append, top, clear, tag, address, low, keptTop, keptLow]
  exact ⟨rfl, rfl⟩

/-- Settles O26: step 6 of CHADDR issues the write of the two bytes of `NEW_WORD`. -/
theorem writePayloadIsHighThenLow : Obligations.WritePayloadIsHighThenLow := by
  intro s hop hstep hsub
  have write : s.micro = .writeWord2 := by rw [State.micro, hop, hstep, hsub]; rfl
  simp [State.nextFrame, write, highByte, lowByte]

/-! ## The raw reading -/

theorem rawReading_toNat (b0 b1 : Byte) : (rawReading b0 b1).toNat = 256 * b0.toNat + b1.toNat := by
  rw [rawReading_eq_append, BitVec.toNat_append, ← Nat.shiftLeft_add_eq_or_of_lt b1.isLt, Nat.shiftLeft_eq,
    Nat.mul_comm]

/-- The read of RDRAW, completed, and the combination of its two bytes (40_raw_read.md R93, R94). -/
theorem run_readAndCombine {s : State} {b0 b1 : Byte} {more : List Byte} {rest : List Answer} (hop : s.seqOp = .rdraw)
    (hstep : s.seqStep = 3) (hsub : s.seqSub = 0) (ha : s.answers = .complete (b0 :: b1 :: more) :: rest) :
    runSeq 2 s = { s with
      answers := rest, b0 := b0, b1 := b1, busy := false, seqOp := .idle, seqStep := 0
      trace := s.trace ++ [.rd s.devAddr s.tReg 2 (some [b0, b1])]
      records := s.records ++ [okRec false (some (rawReading b0 b1)) none] } := by
  cases s
  simp only at hop hstep hsub ha
  subst hop hstep hsub ha
  have enough : ¬ more.length + 1 + 1 < 2 := by omega
  simp [enough, tick, runMicro, State.micro, microAt, singleAt, issueRd, busRead, Attempt.settle, State.advance, lastSub,
    lastStep, State.emit, State.dropAnswer, State.goTo, State.latchRaw, State.complete, State.deliver, okRecord,
    reportedWarning, okRec]

/-- Settles O12: the reading reported is the two bytes of the read side by side, the first one high. -/
theorem rawReadingIsHighByteFirst : Obligations.RawReadingIsHighByteFirst := by
  refine ⟨fun s t reg b0 b1 x rest hready ha hexec => ?_, by decide⟩
  have select := run_select (s := (s.latchReg reg).start .rdraw) (.inl rfl) rfl rfl ha
  have run : runSeq 4 ((s.latchReg reg).start .rdraw) = _ :=
    (runSeq_add 2 2 _).trans ((congrArg _ select).trans (run_readAndCombine rfl rfl rfl rfl))
  cases ((exec_rdraw_ready hready reg).trans (congrArg _ run)).symm.trans hexec
  refine ⟨rawReading b0 b1, rfl, ?_, ?_, rfl, rawReading_toNat b0 b1⟩ <;> rw [rawReading_eq_append]
  · exact BitVec.extractLsb'_append_eq_left
  · exact BitVec.extractLsb'_append_eq_right

end Sys2Proof.Words
end

section
/-! PROOF that the middle byte of the fetch reply influences nothing. A state is veiled by blanking the byte wherever it
can stand: in the answers to come, in `F1` and in the trace. Every micro-step of CHADDR commutes with the veil, so two
runs that start alike under it end alike under it. -/

namespace Sys2Proof.MiddleByte

open Sys2Proof.Machine Sys2Proof.Config Sys2Proof.Claims Sys2Proof.Sequencing Sys2Proof.BusEvents

/-! ## The veil -/

/-- A reply with its second byte blanked, if it has a third. -/
def veilReply : List Byte → List Byte
  | b0 :: _ :: b2 :: more => b0 :: 0 :: b2 :: more
  | short => short

/-- An answer with the second byte of its reply blanked. -/
def veilAnswer : Answer → Answer
  | .complete bytes => .complete (veilReply bytes)
  | .fail => .fail

/-- A state with the middle byte of every fetch reply blanked, whether to come, latched or in the trace. -/
def veil (s : State) : State :=
  { s with f1 := 0, trace := s.trace.map hideMiddle, answers := s.answers.map veilAnswer }

/-- What a call comes to, under the veil. -/
def veilAttempt : Attempt → Attempt
  | .pending => .pending
  | .failed t => .failed (veil t)
  | .done reply t => .done (veilReply reply) (veil t)

theorem veilReply_length (bytes : List Byte) : (veilReply bytes).length = bytes.length := by
  unfold veilReply
  split <;> simp

/-- The fetch takes three bytes, so it takes the blanked byte with the other two. -/
theorem veilReply_take (bytes : List Byte) : (veilReply bytes).take 3 = veilReply (bytes.take 3) := by
  match bytes with
  | [] => rfl
  | [_] => rfl
  | [_, _] => rfl
  | _ :: _ :: _ :: _ => rfl

theorem hideMiddle_rd (dev : U7) (reg : Byte) {reply : List Byte} (three : reply.length = 3) :
    hideMiddle (.rd dev reg 3 (some reply)) = .rd dev reg 3 (some (veilReply reply)) := by
  match reply, three with
  | [_, _, _], _ => rfl

/-! ## The veil and the shared operations -/

section
variable (s : State)

theorem veil_emit (e : Event) : veil (s.emit e) = (veil s).emit (hideMiddle e) := by
  simp [veil, State.emit]

theorem veil_dropAnswer : veil s.dropAnswer = (veil s).dropAnswer := by
  simp [veil, State.dropAnswer]

/-- The fetched word and the acknowledgement are of the outer bytes (30_encoding.md R71, 42_address_change.md R122). -/
theorem veil_latchFetch {reply : List Byte} (three : reply.length = 3) :
    veil (s.latchFetch reply) = (veil s).latchFetch (veilReply reply) := by
  match reply, three with
  | [_, _, _], _ => rfl

theorem veil_advance : veil s.advance = (veil s).advance := by
  simp only [State.advance, apply_ite veil]
  rfl

theorem veil_raiseTransport : veil s.raiseTransport = (veil s).raiseTransport := by
  simp only [State.raiseTransport, State.raiseError, apply_ite veil]
  rfl

theorem veil_transact {event : Mark → Event} (other : ∀ mark, hideMiddle (event mark) = event mark) :
    transact event (veil s) = veilAttempt (transact event s) := by
  rcases transact_cases event s with ⟨ha, e⟩ | ⟨rest, ha, e⟩ | ⟨x, rest, ha, e⟩ <;> rw [e]
  · simp [transact, veil, ha, veilAttempt]
  · simp [transact, veil, ha, veilAnswer, veilAttempt, State.emit, State.dropAnswer, other]
  · simp [transact, veil, ha, veilAnswer, veilAttempt, veilReply, State.emit, State.dropAnswer, other]

theorem veil_busRead (dev : U7) (reg : Byte) :
    busRead dev reg 3 (veil s) = veilAttempt (busRead dev reg 3 s) := by
  cases ha : s.answers with
  | nil => simp [busRead, veil, ha, veilAttempt]
  | cons a rest =>
    cases a with
    | fail => simp [busRead, veil, ha, veilAnswer, veilAttempt, State.emit, State.dropAnswer, hideMiddle]
    | complete bytes =>
      by_cases short : bytes.length < 3
      · simp [busRead, veil, ha, veilAnswer, veilAttempt, veilReply_length, short, State.emit, State.dropAnswer,
          hideMiddle]
      · have three : (bytes.take 3).length = 3 := by simp; omega
        simp [busRead, veil, ha, veilAnswer, veilAttempt, veilReply_length, short, State.emit, State.dropAnswer,
          veilReply_take, hideMiddle_rd dev reg three]

/-- Going on after a call commutes with the veil if the use of the reply does. -/
theorem veil_settle {a : Attempt} {use : List Byte → State → State}
    (commutes : ∀ reply t, a = .done reply t → veil (use reply t) = use (veilReply reply) (veil t)) :
    veil (a.settle s use) = (veilAttempt a).settle (veil s) use := by
  cases a with
  | pending => rfl
  | failed t => exact veil_raiseTransport t
  | done reply t => exact commutes reply t rfl

theorem veil_issueWr (cmd p0 p1 : Byte) : veil (issueWr cmd p0 p1 s) = issueWr cmd p0 p1 (veil s) := by
  have call := veil_transact s (event := .wr s.tOld cmd p0 p1) fun _ => rfl
  exact (veil_settle s fun _ t _ => veil_advance t).trans (congrArg (Attempt.settle · _ _) call.symm)

theorem veil_pinWrite (level : BitVec 1) : pinWrite level (veil s) = veilAttempt (pinWrite level s) := by
  unfold pinWrite
  rw [veil_transact s fun _ => rfl]
  cases transact (.pin level) s <;> rfl

theorem veil_issuePin (level : BitVec 1) : veil (issuePin level s) = issuePin level (veil s) := by
  rw [issuePin, issuePin, veil_pinWrite]
  exact veil_settle s fun _ t _ => veil_advance t

theorem veil_issueFetch : veil (issueFetch s) = issueFetch (veil s) := by
  have call : busRead (veil s).tOld regFetch 3 (veil s) = _ := veil_busRead s s.tOld regFetch
  rw [issueFetch, issueFetch, call]
  refine veil_settle s fun reply t done => ?_
  have three : reply.length = 3 := by
    rcases busRead_cases s.tOld regFetch 3 s with ⟨_, e⟩ | e | ⟨x, _, _, hx, e⟩ <;> cases e.symm.trans done
    exact hx
  rw [veil_advance, veil_latchFetch t three]

end

/-! ## Runs of CHADDR -/

/-- The micro-steps of the address change (42_address_change.md R116), and the one of Idle. -/
def inAddressChange : Micro → Bool
  | .pin _ | .wait _ | .enterCm | .reqWord2 | .fetchWord | .patch | .writeWord2 | .exitCm | .hold => true
  | _ => false

theorem micro_inAddressChange {s : State} (hop : s.seqOp = .chaddr ∨ s.seqOp = .idle) :
    inAddressChange s.micro = true := by
  by_cases hm : s.micro = .hold
  · rw [hm]; rfl
  · exact forall_positions (P := fun op step sub => op = .chaddr ∨ op = .idle →
      inAddressChange (microAt op step sub) = true) (by decide) hm hop

theorem veil_tick {s : State} (hop : s.seqOp = .chaddr ∨ s.seqOp = .idle) : veil (tick s) = tick (veil s) := by
  have row := micro_inAddressChange hop
  have micro : (veil s).micro = s.micro := rfl
  unfold tick
  rw [micro]
  cases hm : s.micro with
  | pin level => exact veil_issuePin s level
  | wait d => exact (veil_advance (waitFor d s)).trans (congrArg State.advance (veil_emit s (.wait d)))
  | enterCm => exact veil_issueWr s _ _ _
  | reqWord2 => exact veil_issueWr s _ _ _
  | fetchWord => exact veil_issueFetch s
  | patch => exact veil_advance s.patch
  | writeWord2 => exact veil_issueWr s _ _ _
  | exitCm => exact veil_issueWr s _ _ _
  | hold => rfl
  | _ => simp [hm, inAddressChange] at row

theorem veil_runSeq (n : Nat) {s : State} (hop : s.seqOp = .chaddr ∨ s.seqOp = .idle) :
    veil (runSeq n s) = runSeq n (veil s) := by
  induction n generalizing s with
  | zero => rfl
  | succ n ih =>
    have hop' : (tick s).seqOp = .chaddr ∨ (tick s).seqOp = .idle :=
      (tick_seqOp s).elim (fun h => h ▸ hop) .inr
    rw [runSeq_succ, runSeq_succ, ih hop', veil_tick hop]

/-- An accepted CHADDR starts at its first step, with the addresses latched. -/
theorem exec_chaddr_ready {s : State} (hready : s.busy = false) (a : U7) :
    exec (.chaddr a) s = .next (runSeq 18 ((s.latchAddresses a).start .chaddr)) := by
  rw [exec_accepted (.chaddr a), operate_ready _ _ _ hready]
  rfl

/-- Two states that are one under the veil run CHADDR to states that are one under the veil. -/
theorem veil_runs_eq {s t : State} (same : veil s = veil t) (a : U7) (n : Nat) :
    veil (runSeq n ((s.latchAddresses a).start .chaddr)) = veil (runSeq n ((t.latchAddresses a).start .chaddr)) := by
  have start (u : State) : veil ((u.latchAddresses a).start .chaddr) = ((veil u).latchAddresses a).start .chaddr := rfl
  rw [veil_runSeq n (.inl rfl), veil_runSeq n (.inl rfl), start s, start t, same]

/-- The veil hides the middle byte of a reply, wherever the reply stands among the answers. -/
theorem veil_answers (s : State) (before rest : List Answer) (f0 f1 g1 f2 : Byte) (more : List Byte) :
    veil { s with answers := before ++ .complete (f0 :: f1 :: f2 :: more) :: rest } =
      veil { s with answers := before ++ .complete (f0 :: g1 :: f2 :: more) :: rest } := by
  simp [veil, veilAnswer, veilReply]

/-- What the veil does not hide. -/
theorem unveiled {t u : State} (same : veil t = veil u) :
    SameRegisters t u ∧ t.records = u.records ∧ t.busy = u.busy ∧
      t.seqOp = u.seqOp ∧ t.seqStep = u.seqStep ∧ t.seqSub = u.seqSub ∧
      t.word = u.word ∧ t.newWord = u.newWord ∧ t.trace.map hideMiddle = u.trace.map hideMiddle := by
  have field {α : Type} (f : State → α) : f (veil t) = f (veil u) := congrArg f same
  exact ⟨⟨(field State.devAddr).symm, (field State.zeroOffset).symm, (field State.sens).symm, (field State.pwr).symm⟩,
    field State.records, field State.busy, field State.seqOp, field State.seqStep, field State.seqSub,
    field State.word, field State.newWord, field State.trace⟩

/-- Settles O23: under the veil the two runs start as one and so end as one. -/
theorem middleReplyByteInfluencesNothing : Obligations.MiddleReplyByteInfluencesNothing := by
  intro s a before rest f0 f1 g1 f2 more hready _
  have run (answers : List Answer) := exec_chaddr_ready (s := { s with answers := answers }) hready a
  exact ⟨_, _, run _, run _, unveiled (veil_runs_eq (veil_answers s before rest f0 f1 g1 f2 more) a 18)⟩

end Sys2Proof.MiddleByte
end

section
/-! PROOF that every completed call is followed by its wait. A completed call leads to the position where its wait
stands, so what a run has added to the trace, with the wait of the position it has come to, keeps the waits; and no
operation stops at a wait. -/

namespace Sys2Proof.CallWaits

open Sys2Proof.Machine Sys2Proof.Claims Sys2Proof.Durations Sys2Proof.Sequencing

/-! ## Lists of events -/

theorem waitsKept_nil : WaitsKept [] := by
  simp [WaitsKept]

theorem waitsKept_append {es fs : List Event} (hes : WaitsKept es) (hfs : WaitsKept fs) : WaitsKept (es ++ fs) := by
  intro i e d he hd
  by_cases inFirst : i < es.length
  · rw [List.getElem?_append_left inFirst] at he
    have wait := hes i e d he hd
    have inFirst' : i + 1 < es.length := (List.getElem?_eq_some_iff.mp wait).1
    rwa [List.getElem?_append_left inFirst']
  · have inSecond : es.length ≤ i := Nat.le_of_not_lt inFirst
    rw [List.getElem?_append_right inSecond] at he
    rw [List.getElem?_append_right (Nat.le_succ_of_le inSecond), Nat.succ_sub inSecond]
    exact hfs _ e d he hd

/-- The event of a wait, if there is one. -/
def waitEvents (d : Option Delay) : List Event :=
  (d.map Event.wait).toList

/-- An event with the wait it requires, if it requires one. -/
theorem waitsKept_withWait (e : Event) : WaitsKept (e :: waitEvents (requiredWait e)) := by
  intro i e' d he' hd
  match i with
  | 0 =>
    obtain rfl : e = e' := by simpa using he'
    simp [hd, waitEvents]
  | i + 1 =>
    have wait : e' ∈ waitEvents (requiredWait e) := List.mem_of_getElem? he'
    obtain ⟨_, _, rfl⟩ : ∃ d, requiredWait e = some d ∧ Event.wait d = e' := by simpa [waitEvents] using wait
    simp [requiredWait] at hd

/-! ## The table of control positions -/

/-- The wait that stands at a control position. -/
def waitAt : Micro → Option Delay
  | .wait d => some d
  | _ => none

/-- The wait that a micro-step, completed, leaves to be made (40_raw_read.md R92, 42_address_change.md R118,
70_reset_and_hazards.md R187 to R189). -/
def waitAfter : Micro → Option Delay
  | .sel => some .tSel
  | .enterCm | .reqWord2 | .writeWord2 | .exitCm => some .tCmd
  | .pin level => if level = 0 then some .tOff else some .tSettle
  | _ => none

/-- The wait left to be made stands at the next position, and no operation ends on a call that leaves one. -/
theorem waitAt_next {op : SeqOp} {step : BitVec 4} {sub : BitVec 2} (legal : microAt op step sub ≠ .hold) :
    ((nextPosition op step sub).bind fun p => waitAt (microAt op p.1 p.2)) = waitAfter (microAt op step sub) :=
  forall_positions (P := fun op step sub =>
      ((nextPosition op step sub).bind fun p => waitAt (microAt op p.1 p.2)) = waitAfter (microAt op step sub))
    (by decide) legal

theorem waitAt_first (op : SeqOp) : waitAt (microAt op 1 0) = none := by
  cases op <;> rfl

theorem waitAt_of_idle {s : State} (idle : s.seqOp = .idle) : waitAt s.micro = none := by
  rw [micro_idle idle]; rfl

section
variable {s u : State}

theorem advance_trace (s : State) : s.advance.trace = s.trace := by
  rcases advance_cases s with ⟨_, e⟩ | ⟨_, _, e⟩ | ⟨_, _, _, e⟩ | ⟨_, _, _, e⟩ <;> rw [e] <;> rfl

theorem raiseError_trace (s : State) (status : Status) (failStep : BitVec 4) :
    (s.raiseError status failStep).trace = s.trace := by
  by_cases hidle : s.seqOp = .idle
  · rw [raiseError_idle s status failStep hidle]
  · rw [raiseError_running s status failStep hidle, State.deliver_trace]

theorem waitAt_raiseError (s : State) (status : Status) (failStep : BitVec 4) :
    waitAt (s.raiseError status failStep).micro = none := by
  by_cases hidle : s.seqOp = .idle
  · rw [raiseError_idle s status failStep hidle]
    exact waitAt_of_idle hidle
  · rw [raiseError_running s status failStep hidle]
    exact waitAt_of_idle rfl

/-- The advance leads to the wait that the micro-step left to be made. -/
theorem waitAt_advance (legal : s.micro ≠ .hold) (place : SamePlace s u) :
    waitAt u.advance.micro = waitAfter s.micro := by
  obtain ⟨hop, hstep, hsub, _⟩ := place
  have running : u.seqOp ≠ .idle := hop ▸ running_of_micro rfl legal
  have table := waitAt_next legal
  rw [← hop, ← hstep, ← hsub] at table
  rcases advance_nextPosition u running with ⟨p, next, e⟩ | ⟨last, e⟩ <;> rw [e]
  · rw [next] at table
    simpa [State.micro, hop, hstep, hsub] using table
  · rw [last] at table
    rw [waitAt_of_idle rfl]
    simpa [State.micro, hop, hstep, hsub] using table

end

/-! ## One micro-step -/

/-- What a micro-step adds to the trace: nothing, the wait of its position, or an event with the wait it requires at
the position that follows. -/
inductive TickTrace (s t : State) : Prop
  | silent (trace : t.trace = s.trace) (wait : waitAt t.micro = waitAt s.micro)
  | waited (d : Delay) (wait : waitAt s.micro = some d) (trace : t.trace = s.trace ++ [.wait d])
      (paid : waitAt t.micro = none)
  | called (e : Event) (noWait : waitAt s.micro = none) (trace : t.trace = s.trace ++ [e])
      (owed : waitAt t.micro = requiredWait e)

section
variable {s u : State} {m : Micro}

/-- A call that failed requires no wait, and none follows. -/
theorem tickTrace_call_failed {e : Event} (hm : s.micro = m) (noWait : waitAt m = none)
    (he : requiredWait e = none) : TickTrace s (s.dropAnswer.emit e).raiseTransport := by
  subst hm
  exact .called e noWait (raiseError_trace _ _ _) ((waitAt_raiseError _ _ _).trans he.symm)

/-- A call that completed leads to the wait it requires. -/
theorem tickTrace_call_done {e : Event} (hm : s.micro = m) (legal : m ≠ .hold) (noWait : waitAt m = none)
    (place : SamePlace s u) (trace : u.trace = s.trace ++ [e]) (he : requiredWait e = waitAfter m) :
    TickTrace s u.advance := by
  subst hm
  exact .called e noWait ((advance_trace u).trans trace) ((waitAt_advance legal place).trans he.symm)

theorem tickTrace_issueSel (hm : s.micro = .sel) (reg : Byte) : TickTrace s (issueSel reg s) := by
  rcases issueSel_cases reg s with ⟨_, e⟩ | ⟨_, _, e⟩ | ⟨_, _, _, e⟩ <;> rw [e]
  · exact .silent rfl rfl
  · exact tickTrace_call_failed hm rfl rfl
  · exact tickTrace_call_done hm (by simp) rfl ⟨rfl, rfl, rfl, rfl⟩ rfl rfl

theorem tickTrace_issueRd (hm : s.micro = .rd) (reg : Byte) : TickTrace s (issueRd reg s) := by
  rcases issueRd_cases reg s with ⟨_, e⟩ | e | ⟨_, _, _, _, _, e⟩ <;> rw [e]
  · exact .silent rfl rfl
  · exact tickTrace_call_failed hm rfl rfl
  · exact tickTrace_call_done hm (by simp) rfl ⟨rfl, rfl, rfl, rfl⟩ rfl rfl

theorem tickTrace_issueFetch (hm : s.micro = .fetchWord) : TickTrace s (issueFetch s) := by
  rcases issueFetch_cases s with ⟨_, e⟩ | e | ⟨_, _, _, _, _, _, e⟩ <;> rw [e]
  · exact .silent rfl rfl
  · exact tickTrace_call_failed hm rfl rfl
  · exact tickTrace_call_done hm (by simp) rfl ⟨rfl, rfl, rfl, rfl⟩ rfl rfl

theorem tickTrace_issuePin {level : BitVec 1} (hm : s.micro = .pin level) : TickTrace s (issuePin level s) := by
  rcases issuePin_cases level s with ⟨_, e⟩ | ⟨_, _, e⟩ | ⟨_, _, _, e⟩ <;> rw [e]
  · exact .silent rfl rfl
  · exact tickTrace_call_failed hm rfl rfl
  · exact tickTrace_call_done hm (by simp) rfl ⟨rfl, rfl, rfl, rfl⟩ rfl rfl

/-- The four command writes are followed by one and the same wait (R189). -/
theorem tickTrace_issueWr (hm : s.micro = m) (legal : m ≠ .hold) (noWait : waitAt m = none)
    (write : waitAfter m = some .tCmd) (cmd p0 p1 : Byte) : TickTrace s (issueWr cmd p0 p1 s) := by
  rcases issueWr_cases cmd p0 p1 s with ⟨_, e⟩ | ⟨_, _, e⟩ | ⟨_, _, _, e⟩ <;> rw [e]
  · exact .silent rfl rfl
  · exact tickTrace_call_failed hm noWait rfl
  · exact tickTrace_call_done hm legal noWait ⟨rfl, rfl, rfl, rfl⟩ rfl write.symm

/-- No wait stands after a wait. -/
theorem tickTrace_wait {d : Delay} (hm : s.micro = .wait d) : TickTrace s (waitFor d s).advance := by
  have paid : waitAt (waitFor d s).advance.micro = waitAfter s.micro :=
    waitAt_advance (by simp [hm]) ⟨rfl, rfl, rfl, rfl⟩
  rw [hm] at paid
  exact .waited d (by rw [hm]; rfl) (advance_trace (waitFor d s)) paid

/-- A micro-step that is no call and no wait puts nothing into the trace and leaves no wait to be made. -/
theorem quiet_of_computation (noCall : callsOf m = 0) (noWait : waitAt m = none) :
    waitAfter m = none ∧ ∀ e reply x s, (performed m e reply x s).trace = s.trace := by
  cases m <;> simp [callsOf, waitAt, waitAfter, performed] at noCall noWait ⊢

theorem tickTrace_computation (hm : s.micro = m) (noCall : callsOf m = 0) (noWait : waitAt m = none) :
    TickTrace s (runMicro m s) := by
  subst hm
  obtain ⟨noneAfter, silent⟩ := quiet_of_computation noCall noWait
  have quietly {t : State} (trace : t.trace = s.trace) (wait : waitAt t.micro = none) : TickTrace s t :=
    .silent trace (wait.trans noWait.symm)
  change TickTrace s (tick s)
  generalize ht : tick s = t
  cases ht ▸ tick_effect s with
  | unanswered => exact quietly rfl noWait
  | hold => exact quietly rfl noWait
  | failed call => simp [noCall] at call
  | degenerate => exact quietly (raiseError_trace _ _ _) (waitAt_raiseError _ _ _)
  | combined => exact quietly rfl (waitAt_of_idle rfl)
  | converted => exact quietly rfl (waitAt_of_idle rfl)
  | advanced legal e reply x =>
    have place : SamePlace s (performed s.micro e reply x s) := by constructor <;> simp
    exact quietly ((advance_trace _).trans (silent e reply x s)) ((waitAt_advance legal place).trans noneAfter)

end

theorem tick_trace (s : State) : TickTrace s (tick s) := by
  unfold tick
  cases hm : s.micro with
  | sel => exact tickTrace_issueSel hm _
  | rd => exact tickTrace_issueRd hm _
  | enterCm => exact tickTrace_issueWr hm (by simp) rfl rfl _ _ _
  | reqWord2 => exact tickTrace_issueWr hm (by simp) rfl rfl _ _ _
  | fetchWord => exact tickTrace_issueFetch hm
  | writeWord2 => exact tickTrace_issueWr hm (by simp) rfl rfl _ _ _
  | exitCm => exact tickTrace_issueWr hm (by simp) rfl rfl _ _ _
  | pin level => exact tickTrace_issuePin hm
  | wait d => exact tickTrace_wait hm
  | _ => exact tickTrace_computation hm rfl rfl

/-! ## A whole run -/

/-- From `s` to `t` every completed call is followed by its wait, if the wait at the position of `t` is counted as
made. -/
def WaitsKeptTo (s t : State) : Prop :=
  ∃ new, t.trace = s.trace ++ new ∧ WaitsKept (new ++ waitEvents (waitAt t.micro))

theorem waitsKeptTo_tick {s t : State} (h : WaitsKeptTo s t) : WaitsKeptTo s (tick t) := by
  obtain ⟨new, added, kept⟩ := h
  cases tick_trace t with
  | silent trace wait => exact ⟨new, trace.trans added, wait ▸ kept⟩
  | waited d wait trace paid =>
    refine ⟨new ++ [.wait d], by rw [trace, added, List.append_assoc], ?_⟩
    simpa [wait, paid, waitEvents] using kept
  | called e noWait trace owed =>
    refine ⟨new ++ [e], by rw [trace, added, List.append_assoc], ?_⟩
    have keptNew : WaitsKept new := by simpa [noWait, waitEvents] using kept
    simpa [owed] using waitsKept_append keptNew (waitsKept_withWait e)

/-- A wait never holds the block. -/
theorem waitAt_of_tick_eq {s : State} (h : tick s = s) : waitAt s.micro = none := by
  cases hm : s.micro with
  | wait d =>
    have trace : (tick s).trace = s.trace ++ [.wait d] := by rw [tick, hm]; exact advance_trace (waitFor d s)
    simp [h] at trace
  | _ => rfl

/-- Within as many micro-steps as there are positions left, the operation is over or an unanswered call holds it. -/
theorem tick_runSeq_of_endsWithin (n : Nat) {s : State} {a c : Nat}
    (ends : endsWithin s.seqOp n s.seqStep s.seqSub a c = true) : tick (runSeq n s) = runSeq n s := by
  induction n generalizing s a c with
  | zero => simp [endsWithin] at ends
  | succ n ih =>
    simp only [endsWithin, Bool.and_eq_true, decide_eq_true_eq] at ends
    obtain ⟨⟨⟨legal, _⟩, _⟩, rest⟩ := ends
    rw [runSeq_succ]
    generalize ht : tick s = t
    cases ht ▸ tickWaits_tick s (running_of_micro rfl legal) with
    | held => rw [runSeq_of_tick_eq n ht, ht]
    | failed idle => rw [runSeq_idle n t idle, tick_idle t idle]
    | moved next seqOp position =>
      subst position
      exact ih (by simpa [next, seqOp] using rest)
    | completed _ idle => rw [runSeq_idle n t idle, tick_idle t idle]

/-- An accepted operation keeps the waits of its calls, on every path. -/
theorem accepted_keepsWaits {s t latched : State} {i : Instr} {op : SeqOp} {a c : Nat} (acc : Accepted s i op latched)
    (hready : s.busy = false) (hexec : exec i s = .next t) (ends : endsWithin op (seqLength op) 1 0 a c = true) :
    ∃ new : List Event, t.trace = s.trace ++ new ∧ WaitsKept new := by
  cases (exec_accepted acc).symm.trans hexec
  rw [operate_ready op latched s hready]
  have sameTrace : s.trace = (latched.start op).trace := by cases acc <;> rfl
  have first : waitAt (latched.start op).micro = none := waitAt_first op
  have start : WaitsKeptTo s (latched.start op) :=
    ⟨[], by simp [sameTrace], by simpa [first, waitEvents] using waitsKept_nil⟩
  obtain ⟨new, added, kept⟩ := runSeq_induction (P := WaitsKeptTo s) (fun _ => waitsKeptTo_tick) _ start
  have last := waitAt_of_tick_eq (tick_runSeq_of_endsWithin (seqLength op) (s := latched.start op) ends)
  exact ⟨new, added, by simpa [last, waitEvents] using kept⟩

/-- Settles O56: the three operations that make calls, each run to its end or to the call that holds it. -/
theorem everyCallIsFollowedByItsWait : Obligations.EveryCallIsFollowedByItsWait := by
  rintro s t hready (⟨reg, h⟩ | h | ⟨a, h⟩)
  · exact accepted_keepsWaits (a := 2) (c := 0) (.rdraw reg) hready h (by decide)
  · exact accepted_keepsWaits (a := 2) (c := 0) .rdforce hready h (by decide)
  · exact accepted_keepsWaits (a := 9) (c := 0) (.chaddr a) hready h (by decide)

end Sys2Proof.CallWaits
end

section
/-! PROOF of what a completed raw read leaves. The two calls go on to the positions the table names, and RDRAW is its
select with the wait and then its read with the combination. -/

namespace Sys2Proof.RawRead

open Sys2Proof.Machine Sys2Proof.Claims Sys2Proof.Durations Sys2Proof.Sequencing Sys2Proof.BusEvents Sys2Proof.Words

/-- Settles O11: the select and its wait, then the read and the combination of its bytes. -/
theorem rdrawReturnsTheReading : Obligations.RdrawReturnsTheReading := by
  intro s reg b0 b1 x more rest hready ha
  have select := run_select (s := (s.latchReg reg).start .rdraw) (.inl rfl) rfl rfl ha
  have run : runSeq 4 ((s.latchReg reg).start .rdraw) = _ :=
    (runSeq_add 2 2 _).trans ((congrArg _ select).trans (run_readAndCombine rfl rfl rfl rfl))
  rw [exec_rdraw_ready hready, run, rawReading_eq_append]
  simp [State.latchReg, State.start]

/-! ## The two calls -/

theorem issueRd_complete {s : State} {b0 b1 : Byte} {more : List Byte} {rest : List Answer}
    (ha : s.answers = .complete (b0 :: b1 :: more) :: rest) (reg : Byte) :
    issueRd reg s = ((s.dropAnswer.emit (.rd s.devAddr reg 2 (some [b0, b1]))).latchRaw [b0, b1]).advance := by
  simp [issueRd, busRead, ha]

/-- After the read of a raw read its bytes are combined (40_raw_read.md R93, R94). -/
theorem nextPosition_of_rawRead {op : SeqOp} (hop : op = .rdraw ∨ op = .rdforce) :
    nextPosition op 3 0 = some (4, 0) := by
  rcases hop with rfl | rfl <;> rfl

/-- Settles O36: each call, answered, adds its event and advances to the next position of the table. -/
theorem rawReadFramesAdvance : Obligations.RawReadFramesAdvance := by
  intro s reg rest hop hsub
  have running : s.seqOp ≠ .idle := by rcases hop with h | h <;> simp [h]
  refine ⟨fun x hstep ha => ?_, fun b0 b1 more hstep ha => ?_⟩
  · have next : nextPosition s.seqOp s.seqStep s.seqSub = some (2, s.seqSub) := by
      obtain ⟨_, afterSelect, _⟩ := select_positions hop
      rw [hstep, hsub, afterSelect]
    have advance : (s.dropAnswer.emit (.sel s.devAddr reg .completed)).advance = _ := advance_eq_goTo running next
    change Host.Outcome.next (issueSel reg s) = _
    rw [issueSel_complete ha, advance, dropAnswer_eq ha]
    rfl
  · have next : nextPosition s.seqOp s.seqStep s.seqSub = some (4, s.seqSub) := by
      rw [hstep, hsub, nextPosition_of_rawRead hop]
    have advance : ((s.dropAnswer.emit (.rd s.devAddr reg 2 (some [b0, b1]))).latchRaw [b0, b1]).advance = _ :=
      advance_eq_goTo running next
    change Host.Outcome.next (issueRd reg s) = _
    rw [issueRd_complete ha, advance, dropAnswer_eq ha]
    rfl

end Sys2Proof.RawRead
end

section
/-! PROOF of the calibration arithmetic. Each of the four operations is one micro-step from its acceptance; what that
micro-step leaves is said once for each, in the model's own `forceOf` and `sensitivityOf`. The laws of the numbers are
about these two functions and the exact difference alone. -/

namespace Sys2Proof.Calibration

open Sys2Proof.Machine Sys2Proof.Config Sys2Proof.Claims Sys2Proof.Durations Sys2Proof.Sequencing

/-! ## The exact difference (41_calibration.md R99) -/

theorem diff_eq_zero_iff (r z : U16) : diff r z = 0 ↔ r = z := by
  rw [diff, Int.sub_eq_zero, Nat.cast_inj, BitVec.toNat_inj]

theorem diff_self (z : U16) : diff z z = 0 :=
  (diff_eq_zero_iff z z).mpr rfl

/-- Settles O10: the difference is that of two naturals below 65536. -/
theorem differenceIsExact : Obligations.DifferenceIsExact := by
  intro r z
  have hr := r.isLt
  have hz := z.isLt
  refine ⟨?_, ?_, diff_eq_zero_iff r z, fun r' h => ?_, fun h => ?_⟩ <;> unfold diff <;> omega

/-- Below the greatest reading one count more is no wrap-around. -/
theorem diff_add_one {raw : U16} (h : raw.toNat < 65535) (z : U16) : diff (raw + 1) z = diff raw z + 1 := by
  have count : (raw + 1).toNat = raw.toNat + 1 := BitVec.toNat_add_of_lt (Nat.add_lt_add_right h 1)
  rw [diff, diff, count]
  omega

/-! ## The arithmetic of the exact rationals (R101, R102; log 4) -/

theorem forceOf_eq_mul (raw z : U16) (k : Sys2Proof.Num) : forceOf raw z k = ((diff raw z : Rat) * k : Rat) := rfl

theorem sensitivityOf_eq_div (force : Sys2Proof.Num) (raw z : U16) :
    sensitivityOf force raw z = (force / (diff raw z : Rat) : Rat) := rfl

theorem forceOf_zeroOffset (z : U16) (k : Sys2Proof.Num) : forceOf z z k = (0 : Rat) := by
  rw [forceOf_eq_mul, diff_self, Int.cast_zero, zero_mul]

/-- The known force over a difference that is not zero, times that difference (R106). -/
theorem forceOf_sensitivityOf {raw z : U16} (unlike : raw ≠ z) (force : Sys2Proof.Num) :
    forceOf raw z (sensitivityOf force raw z) = force := by
  have nonzero : (diff raw z : Rat) ≠ 0 := Int.cast_ne_zero.mpr fun h => unlike ((diff_eq_zero_iff raw z).mp h)
  exact mul_div_cancel₀ force nonzero

/-- Conversion is affine in the reading (R106). -/
theorem forceOf_add_one {raw : U16} (h : raw.toNat < 65535) (z : U16) (k : Sys2Proof.Num) :
    forceOf (raw + 1) z k - forceOf raw z k = k := by
  rw [forceOf_eq_mul, forceOf_eq_mul, diff_add_one h, Int.cast_add, Int.cast_one, add_one_mul]
  exact add_sub_cancel_left _ _

/-! ## The operations of one micro-step -/

theorem degenerate_iff (raw z : U16) : degenerate raw z = true ↔ raw = z :=
  beq_iff_eq

/-- An operation other than CHADDR completes without a warning (10_state.md R26). -/
theorem complete_eq_deliver {s : State} (hop : s.seqOp ≠ .chaddr) (raw : Option U16) (num : Option Sys2Proof.Num) :
    s.complete raw num = s.deliver (okRec false raw num) := by
  rw [State.complete, okRecord, reportedWarning_of_ne_chaddr hop, okRec]

/-- After the last position of the table the advance completes. -/
theorem advance_eq_complete {s : State} (running : s.seqOp ≠ .idle)
    (last : nextPosition s.seqOp s.seqStep s.seqSub = none) : s.advance = s.complete none none := by
  rcases advance_nextPosition s running with ⟨p, h, _⟩ | ⟨_, e⟩
  · simp [last] at h
  · exact e

/-- An operation of one step, accepted, is the micro-step at its first position. -/
theorem exec_single {s latched : State} {i : Instr} {op : SeqOp} (acc : Accepted s i op latched)
    (hready : s.busy = false) (single : seqLength op = 1) : exec i s = .next (tick (latched.start op)) := by
  rw [exec_accepted acc, operate_ready op latched s hready, single]
  rfl

section
variable {s : State} (hready : s.busy = false)
include hready

/-- ZCAP latches and captures the offset (41_calibration.md R100). -/
theorem exec_zcap_ready (raw : U16) :
    exec (.zcap raw) s = .next (((s.latchRawOperand raw).start .zcap).zeroCapture.complete none none) := by
  rw [exec_single (.zcap raw) hready rfl]
  exact congrArg _ (advance_eq_complete (s := ((s.latchRawOperand raw).start .zcap).zeroCapture) (by simp) rfl)

/-- SETCAL latches and writes both constants (R103). -/
theorem exec_setcal_ready (z : U16) (k : Sys2Proof.Num) :
    exec (.setcal z k) s = .next (((s.latchOperands z k).start .setcal).setManual.complete none none) := by
  rw [exec_single (.setcal z k) hready rfl]
  exact congrArg _ (advance_eq_complete (s := ((s.latchOperands z k).start .setcal).setManual) (by simp) rfl)

/-- FCONV latches and completes with the force (R102). -/
theorem exec_fconv_ready (raw : U16) :
    exec (.fconv raw) s = .next
      (((s.latchRawOperand raw).start .fconv).complete none (some (forceOf raw s.zeroOffset s.sens))) := by
  rw [exec_single (.fconv raw) hready rfl]
  rfl

/-- CALLD latches and makes the known load step, which begins with the degenerate test (R101, R108). -/
theorem exec_calld_ready (raw : U16) (force : Sys2Proof.Num) :
    exec (.calld raw force) s = .next (knownLoad ((s.latchOperands raw force).start .calld)) := by
  rw [exec_single (.calld raw force) hready rfl]
  rfl

theorem exec_calld_unlike {raw : U16} (unlike : raw ≠ s.zeroOffset) (force : Sys2Proof.Num) :
    exec (.calld raw force) s = .next
      (((s.latchOperands raw force).start .calld).fitSensitivity.complete none none) := by
  have test : ¬ degenerate raw s.zeroOffset = true := mt (degenerate_iff _ _).mp unlike
  have advance := advance_eq_complete (s := ((s.latchOperands raw force).start .calld).fitSensitivity) (by simp) rfl
  rw [exec_calld_ready hready, ← advance]
  exact congrArg _ (if_neg test)

theorem exec_calld_equal {raw : U16} (equal : raw = s.zeroOffset) (force : Sys2Proof.Num) :
    exec (.calld raw force) s = .next
      (((s.latchOperands raw force).start .calld).raiseError .degenerateCalibration 0) := by
  rw [exec_calld_ready hready]
  exact congrArg _ (if_pos ((degenerate_iff _ _).mpr equal))

end

/-! ## The obligations on next states -/

/-- Settles O14: the latched operand is the new offset. -/
theorem zcapWritesOnlyTheOffset : Obligations.ZcapWritesOnlyTheOffset := by
  intro s raw hready
  rw [exec_zcap_ready hready, complete_eq_deliver (by simp)]
  rfl

/-- Settles O15: the branches of the degenerate test. -/
theorem calldFitsTheSensitivity : Obligations.CalldFitsTheSensitivity := by
  intro s raw force hready
  refine ⟨fun unlike => ?_, fun equal => ?_⟩
  · rw [exec_calld_unlike hready unlike, complete_eq_deliver (by simp)]
    rfl
  · rw [exec_calld_equal hready equal, raiseError_running _ _ _ (by simp), errorRecord,
      reportedWarning_of_ne_chaddr (by simp)]
    rfl

/-- Settles O16: each branch of the degenerate test has its status; with one count of difference the quotient is the
force. -/
theorem degenerateTestIsExactEquality : Obligations.DegenerateTestIsExactEquality := by
  refine ⟨fun s raw force hready => ?_, fun s hready hzero => ?_⟩
  · obtain ⟨fitted, refused⟩ := calldFitsTheSensitivity s raw force hready
    by_cases equal : raw = s.zeroOffset
    · exact ⟨_, _, refused equal, rfl, by simp [errRec, equal], by simp [errRec, equal]⟩
    · exact ⟨_, _, fitted equal, rfl, by simp [okRec, equal], by simp [okRec, equal]⟩
  · have unlike : (1001 : U16) ≠ s.zeroOffset := by rw [hzero]; decide
    have one : diff 1001 s.zeroOffset = 1 := by rw [hzero]; decide
    have quotient : sensitivityOf 50 1001 s.zeroOffset = (50 : Rat) := by
      rw [sensitivityOf_eq_div, one, Int.cast_one, div_one]
    obtain ⟨fitted, _⟩ := calldFitsTheSensitivity s 1001 50 hready
    exact ⟨_, fitted unlike, quotient, rfl⟩

/-- Settles O17: the force of the latched reading is the result. -/
theorem fconvReturnsTheForce : Obligations.FconvReturnsTheForce := by
  intro s raw hready
  rw [exec_fconv_ready hready, complete_eq_deliver (by simp)]
  rfl

/-- Settles O18: the latched operands are the new constants. -/
theorem setcalWritesBothConstants : Obligations.SetcalWritesBothConstants := by
  intro s z k hready
  rw [exec_setcal_ready hready, complete_eq_deliver (by simp)]
  rfl

/-! ## The obligations on forces -/

/-- FCONV adds one record, with the force (R102). -/
theorem exec_fconv_record {s : State} (hready : s.busy = false) (raw : U16) :
    ∃ t : State, exec (.fconv raw) s = .next t ∧
      t.records = s.records ++ [okRec false none (some (forceOf raw s.zeroOffset s.sens))] :=
  ⟨_, fconvReturnsTheForce s raw hready, rfl⟩

/-- Settles O19: the fitted sensitivity turns the calibration point back into its force. -/
theorem calibrationPointIsReproduced : Obligations.CalibrationPointIsReproduced := by
  intro s raw force hready unlike
  obtain ⟨fitted, _⟩ := calldFitsTheSensitivity s raw force hready
  obtain ⟨t, hcalld, ready, offset, sens, records⟩ : ∃ t : State, exec (.calld raw force) s = .next t ∧
      t.busy = false ∧ t.zeroOffset = s.zeroOffset ∧ t.sens = sensitivityOf force raw s.zeroOffset ∧
      t.records = s.records ++ [okRec false none none] := ⟨_, fitted unlike, rfl, rfl, rfl, rfl⟩
  obtain ⟨u, hpoint, atPoint⟩ := exec_fconv_record ready raw
  obtain ⟨v, hzero, atZero⟩ := exec_fconv_record ready s.zeroOffset
  refine ⟨t, u, v, hcalld, hpoint, ?_, hzero, ?_⟩
  · rw [atPoint, records, offset, sens, forceOf_sensitivityOf unlike, List.append_assoc]
    rfl
  · rw [atZero, records, offset, forceOf_zeroOffset, List.append_assoc]
    rfl

/-- Settles O20: two conversions from one state, and the force of one count more. -/
theorem forceSlopeIsTheSensitivity : Obligations.ForceSlopeIsTheSensitivity := by
  intro s raw hready below
  obtain ⟨t, ht, atRaw⟩ := exec_fconv_record hready raw
  obtain ⟨u, hu, atNext⟩ := exec_fconv_record hready (raw + 1)
  exact ⟨t, u, _, _, ht, hu, atRaw, atNext, forceOf_add_one below s.zeroOffset s.sens⟩

/-- Settles O58: reset, `forceOf` and `sensitivityOf` are written in the operations of the configured format. -/
theorem arithmeticIsTheConfiguredFormat : Obligations.ArithmeticIsTheConfiguredFormat := by
  refine ⟨fun _ => rfl, fun s raw hready => exec_fconv_record hready raw, fun s raw force hready unlike => ?_⟩
  exact ⟨_, exec_calld_unlike hready unlike force, rfl⟩

end Sys2Proof.Calibration
end

section
/-! PROOF of the address change. Its nine calls stand two micro-steps apart, each followed by its wait or, the fetch, by
the patch. `afterCalls` is the state before each of them, reached by induction on the calls completed; the operation's
success and its nine failures go on from there. The calibration is no part of any of its micro-steps. -/

namespace Sys2Proof.AddressChange

open Sys2Proof.Machine Sys2Proof.Config Sys2Proof.Claims Sys2Proof.Durations Sys2Proof.Sequencing Sys2Proof.BusEvents
  Sys2Proof.Words Sys2Proof.MiddleByte

/-! ## The frames at their steps -/

section
variable {s : State}

theorem issueWr_complete {x : List Byte} {rest : List Answer} (ha : s.answers = .complete x :: rest)
    (cmd p0 p1 : Byte) : issueWr cmd p0 p1 s = (s.dropAnswer.emit (.wr s.tOld cmd p0 p1 .completed)).advance := by
  simpa [ha] using issueWr_cases cmd p0 p1 s

theorem issueFetch_complete {f0 f1 f2 : Byte} {more : List Byte} {rest : List Answer}
    (ha : s.answers = .complete (f0 :: f1 :: f2 :: more) :: rest) :
    issueFetch s =
      ((s.dropAnswer.emit (.rd s.tOld regFetch 3 (some [f0, f1, f2]))).latchFetch [f0, f1, f2]).advance := by
  have enough : ¬ more.length + 1 + 1 + 1 < 3 := by omega
  simp [issueFetch, busRead, ha, enough]

/-- In a command step of CHADDR the wait stands after the write (42_address_change.md R119, R120, R124, R125). -/
theorem nextPosition_of_command {step : BitVec 4} (hstep : step = 2 ∨ step = 3 ∨ step = 6 ∨ step = 7) :
    nextPosition .chaddr step 0 = some (step, 1) := by
  rcases hstep with rfl | rfl | rfl | rfl <;> rfl

/-- A command write at its step, completed, adds its event and goes to its wait. -/
theorem issueWr_at_command {x : List Byte} {rest : List Answer} (hop : s.seqOp = .chaddr) (hsub : s.seqSub = 0)
    (ha : s.answers = .complete x :: rest) (hstep : s.seqStep = 2 ∨ s.seqStep = 3 ∨ s.seqStep = 6 ∨ s.seqStep = 7)
    (cmd p0 p1 : Byte) :
    issueWr cmd p0 p1 s = { s with
      answers := rest, seqSub := 1, trace := s.trace ++ [.wr s.tOld cmd p0 p1 .completed] } := by
  have running : s.seqOp ≠ .idle := by simp [hop]
  have next : nextPosition s.seqOp s.seqStep s.seqSub = some (s.seqStep, 1) := by
    rw [hop, hsub, nextPosition_of_command hstep]
  have advance : (s.dropAnswer.emit (.wr s.tOld cmd p0 p1 .completed)).advance = _ := advance_eq_goTo running next
  rw [issueWr_complete ha, advance, dropAnswer_eq ha]
  rfl

end

/-- Settles O37: each row is a command write at its step. -/
theorem commandFramesAdvance : Obligations.CommandFramesAdvance := by
  intro s x rest h l hop hsub ha
  refine ⟨fun hstep => ?_, fun hstep => ?_, fun hstep => ?_, fun hstep => ?_⟩ <;>
    exact congrArg Host.Outcome.next (issueWr_at_command hop hsub ha (by simp [hstep]) _ _ _)

/-- Settles O38: the completed read latches its three bytes, and the patch is next whatever the first of them is. -/
theorem fetchFrameLatchesTheReply : Obligations.FetchFrameLatchesTheReply := by
  intro s f0 f1 f2 more rest hop hstep hsub ha
  have running : s.seqOp ≠ .idle := by simp [hop]
  have next : nextPosition s.seqOp s.seqStep s.seqSub = some (5, s.seqSub) := by rw [hop, hstep, hsub]; rfl
  have advance : ((s.dropAnswer.emit (.rd s.tOld 0x00 3 (some [f0, f1, f2]))).latchFetch [f0, f1, f2]).advance = _ :=
    advance_eq_goTo running next
  change Host.Outcome.next (issueFetch s) = _
  rw [issueFetch_complete ha, regFetch, advance, dropAnswer_eq ha, ← fetchedWord_eq_append]
  rfl

/-- Settles O25: the patch and the advance to step 6; the bound is that of 7 bits, shifted by three. -/
theorem patchStepWritesTheFormula : Obligations.PatchStepWritesTheFormula := by
  refine ⟨fun s hbusy hop hstep hsub => ?_, fun a => ?_, by decide⟩
  · have hm : s.micro = .patch := by rw [State.micro, hop, hstep, hsub]; rfl
    have next : nextPosition s.seqOp s.seqStep s.seqSub = some (6, s.seqSub) := by rw [hop, hstep, hsub]; rfl
    have advance : s.patch.advance = _ := advance_eq_goTo (running_of_micro hm (by simp)) next
    rw [step_busy s hbusy, tick, hm, runMicro, advance]
    rfl
  · have := a.isLt
    omega

/-! ## The calibration -/

/-- A state with other calibration constants. -/
def recalibrate (z : U16) (k : Sys2Proof.Num) (s : State) : State :=
  { s with zeroOffset := z, sens := k }

/-- What a call comes to, with other calibration constants. -/
def recalibrateAttempt (z : U16) (k : Sys2Proof.Num) : Attempt → Attempt
  | .pending => .pending
  | .failed t => .failed (recalibrate z k t)
  | .done reply t => .done reply (recalibrate z k t)

section
variable (z : U16) (k : Sys2Proof.Num) (s : State)

theorem recalibrate_advance : recalibrate z k s.advance = (recalibrate z k s).advance := by
  simp only [State.advance, apply_ite (recalibrate z k)]
  rfl

theorem recalibrate_raiseTransport : recalibrate z k s.raiseTransport = (recalibrate z k s).raiseTransport := by
  simp only [State.raiseTransport, State.raiseError, apply_ite (recalibrate z k)]
  rfl

theorem recalibrate_transact (event : Mark → Event) :
    transact event (recalibrate z k s) = recalibrateAttempt z k (transact event s) := by
  have answers : (recalibrate z k s).answers = s.answers := rfl
  unfold transact
  rw [answers]
  rcases s.answers with _ | ⟨_ | _, _⟩ <;> rfl

theorem recalibrate_busRead (dev : U7) (reg : Byte) (n : Nat) :
    busRead dev reg n (recalibrate z k s) = recalibrateAttempt z k (busRead dev reg n s) := by
  have answers : (recalibrate z k s).answers = s.answers := rfl
  unfold busRead
  rw [answers]
  rcases s.answers with _ | ⟨bytes | _, _⟩
  · rfl
  · rw [apply_ite (recalibrateAttempt z k)]; rfl
  · rfl

theorem recalibrate_pinWrite (level : BitVec 1) :
    pinWrite level (recalibrate z k s) = recalibrateAttempt z k (pinWrite level s) := by
  unfold pinWrite
  rw [recalibrate_transact]
  cases transact (.pin level) s <;> rfl

/-- Going on after a call commutes with the change of the constants if the use of the reply does. -/
theorem recalibrate_settle (a : Attempt) {use : List Byte → State → State}
    (commutes : ∀ reply t, recalibrate z k (use reply t) = use reply (recalibrate z k t)) :
    recalibrate z k (a.settle s use) = (recalibrateAttempt z k a).settle (recalibrate z k s) use := by
  cases a with
  | pending => rfl
  | failed t => exact recalibrate_raiseTransport z k t
  | done reply t => exact commutes reply t

theorem recalibrate_issueWr (cmd p0 p1 : Byte) :
    recalibrate z k (issueWr cmd p0 p1 s) = issueWr cmd p0 p1 (recalibrate z k s) := by
  have call := recalibrate_transact z k s (.wr s.tOld cmd p0 p1)
  exact (recalibrate_settle z k s _ fun _ t => recalibrate_advance z k t).trans
    (congrArg (Attempt.settle · _ _) call.symm)

theorem recalibrate_issueFetch : recalibrate z k (issueFetch s) = issueFetch (recalibrate z k s) := by
  have call := recalibrate_busRead z k s s.tOld regFetch 3
  exact (recalibrate_settle z k s _ fun reply t => recalibrate_advance z k (t.latchFetch reply)).trans
    (congrArg (Attempt.settle · _ _) call.symm)

theorem recalibrate_issuePin (level : BitVec 1) :
    recalibrate z k (issuePin level s) = issuePin level (recalibrate z k s) := by
  rw [issuePin, issuePin, recalibrate_pinWrite]
  exact recalibrate_settle z k s _ fun _ t => recalibrate_advance z k t

variable {s}

theorem recalibrate_tick (hop : s.seqOp = .chaddr ∨ s.seqOp = .idle) :
    recalibrate z k (tick s) = tick (recalibrate z k s) := by
  have row := micro_inAddressChange hop
  have micro : (recalibrate z k s).micro = s.micro := rfl
  unfold tick
  rw [micro]
  cases hm : s.micro with
  | pin level => exact recalibrate_issuePin z k s level
  | wait d => exact recalibrate_advance z k (waitFor d s)
  | fetchWord => exact recalibrate_issueFetch z k s
  | patch => exact recalibrate_advance z k s.patch
  | hold => rfl
  | enterCm | reqWord2 | writeWord2 | exitCm => exact recalibrate_issueWr z k s _ _ _
  | _ => simp [hm, inAddressChange] at row

theorem recalibrate_runSeq (n : Nat) (hop : s.seqOp = .chaddr ∨ s.seqOp = .idle) :
    recalibrate z k (runSeq n s) = runSeq n (recalibrate z k s) := by
  induction n generalizing s with
  | zero => rfl
  | succ n ih =>
    have hop' : (tick s).seqOp = .chaddr ∨ (tick s).seqOp = .idle :=
      (tick_seqOp s).elim (fun h => h ▸ hop) .inr
    rw [runSeq_succ, runSeq_succ, ih hop', recalibrate_tick z k hop]

end

theorem exec_chaddr_busy {s : State} (hbusy : s.busy = true) (a : U7) : exec (.chaddr a) s = .next s := by
  rw [exec_accepted (.chaddr a), operate_busy _ _ _ hbusy]

/-- Settles O24: no micro-step of CHADDR writes the two registers, and each commutes with a change of them. -/
theorem chaddrLeavesTheCalibrationAlone : Obligations.ChaddrLeavesTheCalibrationAlone := by
  intro s t a z k h
  refine ⟨accepted_zeroOffset (.chaddr a) h (by decide) (by decide) (by decide),
    accepted_sens (.chaddr a) h (by decide) (by decide) (by decide), ?_⟩
  change exec (.chaddr a) (recalibrate z k s) = .next (recalibrate z k t)
  cases hbusy : s.busy with
  | true =>
    cases (exec_chaddr_busy hbusy a).symm.trans h
    exact exec_chaddr_busy (s := recalibrate z k s) hbusy a
  | false =>
    cases (exec_chaddr_ready hbusy a).symm.trans h
    rw [exec_chaddr_ready (s := recalibrate z k s) hbusy, recalibrate_runSeq z k 18 (.inl rfl)]
    rfl

/-! ## The nine calls -/

section
variable (s : State) (a : U7) (f0 f1 f2 : Byte)

/-- CHADDR accepted from `s` with `k` of its nine calls completed and what follows each done: the next call is to be
made, and `left` are the answers to come (42_address_change.md R132, R140). -/
def afterCalls (k : Nat) (left : List Answer) : State :=
  { s with
    busy := true, seqOp := .chaddr, seqStep := failStepOf k, seqSub := if k = 1 ∨ k = 8 then 2 else 0
    pwr := if k = 0 then s.pwr else if k = 1 ∨ k = 8 then 0 else 1
    tOld := s.devAddr, tNew := a
    f0 := if 4 < k then f0 else s.f0
    f1 := if 4 < k then f1 else s.f1
    f2 := if 4 < k then f2 else s.f2
    word := if 4 < k then fetchedWord f0 f2 else s.word
    newWord := if 4 < k then patchWord (fetchedWord f0 f2) a else s.newWord
    wAck := decide (4 < k) && ackMismatch f0
    trace := s.trace ++ (changeTrace s.devAddr a f0 f1 f2).take (failIndex k)
    answers := left }

/-- An answer that completes call `k`; the fetch, call 4, takes the three bytes of the reply. -/
def Serves (k : Nat) (x : Answer) : Prop :=
  ∃ bytes, x = .complete bytes ∧ (k = 4 → ∃ more, bytes = f0 :: f1 :: f2 :: more)

end

section
variable {s : State} {a : U7} {f0 f1 f2 : Byte}

/-- A drive of the power-control line, completed, and the wait after it, anywhere but at the end (R118, R126). -/
theorem run_edge {x : List Byte} {rest : List Answer} {v : BitVec 1} {d : Delay} {p : BitVec 4 × BitVec 2}
    (hop : s.seqOp = .chaddr) (hstep : s.seqStep = 1 ∨ s.seqStep = 8) (hsub : s.seqSub = 0 ∨ s.seqSub = 2)
    (edge : microAt .chaddr s.seqStep s.seqSub = .pin v) (wait : microAt .chaddr s.seqStep (s.seqSub + 1) = .wait d)
    (next : nextPosition .chaddr s.seqStep (s.seqSub + 1) = some p) (ha : s.answers = .complete x :: rest) :
    runSeq 2 s = { s with
      pwr := v, answers := rest, seqStep := p.1, seqSub := p.2
      trace := s.trace ++ [.pin v .completed, .wait d] } := by
  have hm : s.micro = .pin v := by rw [State.micro, hop, edge]
  have hframe : s.nextFrame = some (.busPin v) := by simp [State.nextFrame, hm]
  have drive := (exec_nextFrame s _ hframe).symm.trans (pinFrameDrivesTheLine s v x rest hop hstep hsub ha)
  rw [runSeq_succ, Host.Outcome.next.inj drive, runSeq_succ, tick_wait (d := d) (p := p)]
  · simp [State.emit, State.goTo]
  · rw [State.micro, hop, wait]
  · rw [hop]; exact next

/-- A call of the nine, completed, and what follows it: an edge of a power cycle, a command write or the fetch. -/
theorem run_nextCall {k : Nat} (early : k < 8) {x : Answer} (serves : Serves f0 f1 f2 k x) (left : List Answer) :
    runSeq 2 (afterCalls s a f0 f1 f2 k (x :: left)) = afterCalls s a f0 f1 f2 (k + 1) left := by
  obtain ⟨bytes, rfl, reply⟩ := serves
  match k, early with
  | 0, _ | 1, _ | 7, _ =>
    refine (run_edge rfl (by simp [afterCalls, failStepOf]) (by simp [afterCalls]) rfl rfl rfl rfl).trans ?_
    simp [afterCalls, failIndex, failStepOf, changeTrace]
  | 2, _ | 3, _ | 5, _ | 6, _ =>
    obtain ⟨high, low⟩ := payloadHoldsTheKeptReplyBits f0 f2 a
    refine (run_command _ _ _ rfl (by simp [afterCalls, failStepOf]) rfl rfl).trans ?_
    simp [afterCalls, failIndex, failStepOf, changeTrace, commandFrame, cmdEnter, cmdReqWord2, cmdWriteWord2, cmdExit,
      high, low]
  | 4, _ =>
    obtain ⟨more, rfl⟩ := reply rfl
    refine (run_fetchAndPatch _ f0 f1 f2 more left rfl rfl rfl rfl).trans ?_
    simp [afterCalls, failIndex, failStepOf, changeTrace, regFetch]

/-- Completed answers with a reply of three bytes for the fetch serve the calls in their order. -/
theorem serves_of_complete {ok : List Answer} (complete : ∀ x ∈ ok, ∃ bytes, x = .complete bytes)
    (fetch : 4 < ok.length → ∃ more, ok[4]? = some (.complete (f0 :: f1 :: f2 :: more))) (i : Nat) (x : Answer)
    (hx : ok[i]? = some x) : Serves f0 f1 f2 i x := by
  obtain ⟨bytes, rfl⟩ := complete x (List.mem_of_getElem? hx)
  refine ⟨bytes, rfl, ?_⟩
  rintro rfl
  obtain ⟨more, reply⟩ := fetch (List.getElem?_eq_some_iff.mp hx).1
  exact ⟨more, by simpa [hx] using reply⟩

/-- CHADDR, accepted, is before the first of its calls. -/
theorem start_eq_afterCalls :
    (s.latchAddresses a).start .chaddr = afterCalls s a f0 f1 f2 0 s.answers := by
  simp [afterCalls, failIndex, failStepOf, State.latchAddresses, State.start]

/-- The calls answered first complete, so that the next is made with the answers left. -/
theorem run_calls {ok : List Answer} (few : ok.length ≤ 8) (serve : ∀ i x, ok[i]? = some x → Serves f0 f1 f2 i x)
    {left : List Answer} (ha : s.answers = ok ++ left) :
    runSeq (2 * ok.length) ((s.latchAddresses a).start .chaddr) = afterCalls s a f0 f1 f2 ok.length left := by
  induction ok using List.reverseRecOn generalizing left with
  | nil => rw [start_eq_afterCalls, ha]; rfl
  | append_singleton ok x ih =>
    rw [List.length_append, List.length_singleton] at few ⊢
    have before : ∀ i y, ok[i]? = some y → Serves f0 f1 f2 i y := fun i y h =>
      serve i y (by rw [List.getElem?_append_left (List.getElem?_eq_some_iff.mp h).1, h])
    have last : Serves f0 f1 f2 ok.length x := serve _ x (by simp)
    rw [Nat.mul_succ, runSeq_add, ih (Nat.le_of_lt few) before (by simpa using ha), run_nextCall few last]

/-! ## All nine calls completed -/

/-- The patched word of a fetch reply, field by field (R75, R121, R123). -/
theorem patchWord_fetchedWord :
    patchWord (fetchedWord f0 f2) a = f0.extractLsb' 7 1 ++ 0b00011#5 ++ a ++ f2.extractLsb' 0 3 := by
  have keptTop : (fetchedWord f0 f2).extractLsb' 15 1 = f0.extractLsb' 7 1 := by
    rw [fetchedWord_eq_append]; exact BitVec.extractLsb'_append_eq_of_le (by decide)
  have keptLow : (fetchedWord f0 f2).extractLsb' 0 3 = f2.extractLsb' 0 3 := by
    rw [fetchedWord_eq_append]; exact BitVec.extractLsb'_append_eq_of_add_le (by decide)
  have clearAndTag : ∀ top : BitVec 1, top ++ 0b00#2 ++ 0b011#3 = top ++ 0b00011#5 := by decide
  rw [patchWord_eq_append, keptTop, keptLow, clearAndTag]

end

/-- Settles O21: seven calls, and then the last power cycle with its two. -/
theorem chaddrIssuesTheSeventeenEvents : Obligations.ChaddrIssuesTheSeventeenEvents := by
  intro s a f0 f1 f2 x1 x2 x3 x4 x6 x7 x8 x9 more rest hready ha
  have first : s.answers = [.complete x1, .complete x2, .complete x3, .complete x4,
      .complete (f0 :: f1 :: f2 :: more), .complete x6, .complete x7] ++ .complete x8 :: .complete x9 :: rest := ha
  have calls := run_calls (a := a) (by simp) (serves_of_complete (by simp) fun _ => ⟨more, rfl⟩) first
  have cycle := run_lastPowerCycle (afterCalls s a f0 f1 f2 7 (.complete x8 :: .complete x9 :: rest)) x8 x9 rest
    rfl rfl rfl rfl
  have run : runSeq 18 ((s.latchAddresses a).start .chaddr) = _ :=
    (runSeq_add 14 4 _).trans ((congrArg _ calls).trans cycle)
  rw [exec_chaddr_ready hready, run, ← fetchedWord_eq_append, ← patchWord_fetchedWord]
  simp [afterCalls, failIndex, changeTrace, okRec, ackMismatch, ackExpected]

/-! ## The nine failure points -/

section
variable {s : State} {a : U7} {f0 f1 f2 : Byte}

/-- The row of call `k` is the one the success trace has there (R132, R140). -/
theorem frame_afterCalls {k : Nat} (hk : k < 9) (left : List Answer) :
    ∃ i, (afterCalls s a f0 f1 f2 k left).nextFrame = some i ∧ (k = 4 → i = .busFetchWord) ∧
      failedEvents (afterCalls s a f0 f1 f2 k left) i =
        ((changeTrace s.devAddr a f0 f1 f2)[failIndex k]?.map markFailed).toList := by
  obtain ⟨high, low⟩ := payloadHoldsTheKeptReplyBits f0 f2 a
  match k, hk with
  | 4, _ => exact ⟨_, rfl, fun _ => rfl, rfl⟩
  | 5, _ => exact ⟨_, rfl, by simp, by simp [failedEvents, afterCalls, changeTrace, failIndex, markFailed, high, low]⟩
  | 0, _ | 1, _ | 2, _ | 3, _ | 6, _ | 7, _ | 8, _ => exact ⟨_, rfl, by simp, rfl⟩

end

/-- Settles O22: the calls answered first complete, and the rejected one ends the operation where it stands. -/
theorem chaddrNineFailurePoints : Obligations.ChaddrNineFailurePoints := by
  intro s a k ok rest bad f0 f1 f2 hready hk hlen complete fetch rejected ha
  subst hlen
  have calls := run_calls (a := a) (Nat.le_of_lt_succ hk) (serves_of_complete complete fetch) ha
  obtain ⟨i, hframe, atFetch, event⟩ := frame_afterCalls (s := s) (a := a) (f0 := f0) (f1 := f1) (f2 := f2) hk
    (bad :: rest)
  have rejects : Rejects bad i := by
    rcases rejected with h | ⟨hfour, bytes, h, short⟩
    · exact .inl h
    · exact .inr ⟨bytes, h, .inl ⟨atFetch hfour, short⟩⟩
  have running : (afterCalls s a f0 f1 f2 ok.length (bad :: rest)).seqOp ≠ .idle := by simp [afterCalls]
  have micros : 18 = 2 * ok.length + (17 - 2 * ok.length + 1) := by omega
  have run : runSeq 18 ((s.latchAddresses a).start .chaddr) =
      ended (afterCalls s a f0 f1 f2 ok.length (bad :: rest)) i rest := by
    rw [micros, runSeq_add, calls, runSeq_eq_ended _ running hframe rejects rfl]
  refine ⟨_, (exec_chaddr_ready hready a).trans (congrArg _ run), ?_, rfl, rfl, rfl, rfl, rfl, rfl, rfl, rfl, rfl, rfl⟩
  rw [← event]
  rfl

end Sys2Proof.AddressChange
end

section
/-! PROOF of the composed operations. RDFORCE shares its select and its read with RDRAW: wherever the raw read stops,
the two operations stop in the same way, and where it completes RDFORCE goes on to the conversion. CALIB is two
captures, each followed by the computation of ZCAP or of CALLD. -/

namespace Sys2Proof.Composition

open Sys2Proof.Machine Sys2Proof.Config Sys2Proof.Claims Sys2Proof.Durations Sys2Proof.Sequencing Sys2Proof.BusEvents
  Sys2Proof.RawRead Sys2Proof.Calibration

/-! ## The raw read of RDRAW and RDFORCE, stopped -/

/-- A call of a raw read that is not answered holds the block (60_exceptions.md R170). -/
theorem tick_unanswered {s : State} (call : s.micro = .sel ∨ s.micro = .rd) (ha : s.answers = []) : tick s = s := by
  rw [tick]
  rcases call with hm | hm <;> rw [hm]
  · simp [runMicro, issueSel, busSel, transact, ha]
  · simp [runMicro, issueRd, busRead, ha]

/-- A raw read of `reg` by `op` whose select and wait are done: the read is next, and `left` are the answers to come
(40_raw_read.md R91, R92). -/
def atRead (op : SeqOp) (reg : Byte) (s : State) (left : List Answer) : State :=
  { (s.latchReg reg).start op with
    answers := left, seqStep := 3
    trace := s.trace ++ [.sel s.devAddr reg .completed, .wait .tSel] }

section
variable {s : State} {i : Instr} {op : SeqOp} {reg : Byte} (hop : op = .rdraw ∨ op = .rdforce)
include hop

theorem atRead_frame (left : List Answer) : (atRead op reg s left).nextFrame = some (.busRdForce reg) := by
  rcases hop with rfl | rfl <;> rfl

theorem start_frame : ((s.latchReg reg).start op).nextFrame = some (.busSelForce reg) := by
  rcases hop with rfl | rfl <;> rfl

theorem run_select_atRead {x : List Byte} {left : List Answer} (ha : s.answers = .complete x :: left) :
    runSeq 2 ((s.latchReg reg).start op) = atRead op reg s left :=
  run_select (s := (s.latchReg reg).start op) hop rfl rfl ha

/-- Both operations have micro-steps left after the read. -/
theorem seqLength_eq_add_two : ∃ n, seqLength op = 2 + (n + 1) := by
  rcases hop with rfl | rfl
  · exact ⟨1, rfl⟩
  · exact ⟨2, rfl⟩

variable (acc : Accepted s i op (s.latchReg reg)) (hready : s.busy = false)
include acc hready

theorem exec_select_unanswered (ha : s.answers = []) : exec i s = .next ((s.latchReg reg).start op) := by
  have sel : ((s.latchReg reg).start op).micro = .sel := by rcases hop with rfl | rfl <;> rfl
  rw [exec_accepted acc, operate_ready op _ s hready, runSeq_of_tick_eq _ (tick_unanswered (.inl sel) ha)]

theorem exec_select_rejected {rest : List Answer} (ha : s.answers = .fail :: rest) :
    exec i s = .next (ended ((s.latchReg reg).start op) (.busSelForce reg) rest) := by
  obtain ⟨n, length⟩ := seqLength_eq_add_two hop
  have run : runSeq (2 + n + 1) ((s.latchReg reg).start op) = _ :=
    runSeq_eq_ended (2 + n) (accepted_ne_idle acc) (start_frame hop) (.inl rfl) ha
  rw [exec_accepted acc, operate_ready op _ s hready, length, ← Nat.add_assoc, run]

/-- Past its completed select the operation goes on from the read. -/
theorem exec_eq_run_atRead {x : List Byte} {left : List Answer} (ha : s.answers = .complete x :: left) {n : Nat}
    (length : seqLength op = 2 + n) : exec i s = .next (runSeq n (atRead op reg s left)) := by
  rw [exec_accepted acc, operate_ready op _ s hready, length, runSeq_add, run_select_atRead hop ha]

theorem exec_read_unanswered {x : List Byte} (ha : s.answers = [.complete x]) :
    exec i s = .next (atRead op reg s []) := by
  obtain ⟨n, length⟩ := seqLength_eq_add_two hop
  have rd : (atRead op reg s []).micro = .rd := by rcases hop with rfl | rfl <;> rfl
  rw [exec_eq_run_atRead hop acc hready ha length, runSeq_of_tick_eq _ (tick_unanswered (.inr rd) rfl)]

theorem exec_read_rejected {x : List Byte} {bad : Answer} {rest : List Answer} (rejects : Rejects bad (.busRdForce reg))
    (ha : s.answers = .complete x :: bad :: rest) :
    exec i s = .next (ended (atRead op reg s (bad :: rest)) (.busRdForce reg) rest) := by
  obtain ⟨n, length⟩ := seqLength_eq_add_two hop
  rw [exec_eq_run_atRead hop acc hready ha length,
    runSeq_eq_ended n (accepted_ne_idle acc) (atRead_frame hop _) rejects rfl]

end

/-- What the transport can answer to the two calls of a raw read (20_memory.md R46, R50). -/
theorem rawRead_answers (reg : Byte) (answers : List Answer) :
    answers = [] ∨
    (∃ rest, answers = .fail :: rest) ∨
    (∃ x, answers = [.complete x]) ∨
    (∃ x bad rest, Rejects bad (.busRdForce reg) ∧ answers = .complete x :: bad :: rest) ∨
    (∃ x b0 b1 more rest, answers = .complete x :: .complete (b0 :: b1 :: more) :: rest) := by
  have short {bytes : List Byte} (h : bytes.length < 2) : Rejects (.complete bytes) (.busRdForce reg) :=
    .inr ⟨bytes, rfl, .inr ⟨⟨reg, rfl⟩, h⟩⟩
  match answers with
  | [] => simp
  | .fail :: rest => simp
  | [.complete x] => simp
  | .complete x :: .fail :: rest => exact .inr (.inr (.inr (.inl ⟨x, .fail, rest, .inl rfl, rfl⟩)))
  | .complete x :: .complete [] :: rest => exact .inr (.inr (.inr (.inl ⟨x, _, rest, short (by simp), rfl⟩)))
  | .complete x :: .complete [b] :: rest => exact .inr (.inr (.inr (.inl ⟨x, _, rest, short (by simp), rfl⟩)))
  | .complete x :: .complete (b0 :: b1 :: more) :: rest =>
    exact .inr (.inr (.inr (.inr ⟨x, b0, b1, more, rest, rfl⟩)))

/-! ## RDFORCE, completed -/

section
variable {s : State} (hop : s.seqOp = .rdforce)
include hop

theorem tick_rdforce_read {b0 b1 : Byte} {more : List Byte} {rest : List Answer} (hstep : s.seqStep = 3)
    (hsub : s.seqSub = 0) (ha : s.answers = .complete (b0 :: b1 :: more) :: rest) :
    tick s = { s with
      answers := rest, seqStep := 4, b0 := b0, b1 := b1
      trace := s.trace ++ [.rd s.devAddr s.tReg 2 (some [b0, b1])] } := by
  have hframe : s.nextFrame = some (.busRdForce s.tReg) := by rw [State.nextFrame, State.micro, hop, hstep, hsub]; rfl
  obtain ⟨_, read⟩ := rawReadFramesAdvance s s.tReg rest (.inr hop) hsub
  exact Host.Outcome.next.inj ((exec_nextFrame s _ hframe).symm.trans (read b0 b1 more hstep ha))

theorem tick_combineForce (hstep : s.seqStep = 4) (hsub : s.seqSub = 0) : tick s = s.passReading.goTo 5 0 := by
  have hm : s.micro = .combineForce := by rw [State.micro, hop, hstep, hsub]; rfl
  have next : nextPosition s.seqOp s.seqStep s.seqSub = some (5, 0) := by rw [hop, hstep, hsub]; rfl
  have advance : s.passReading.advance = _ := advance_eq_goTo (running_of_micro hm (by simp)) next
  rw [tick, hm]
  exact advance

theorem tick_rdforce_convert (hstep : s.seqStep = 5) (hsub : s.seqSub = 0) :
    tick s = s.deliver (okRec false none (some (forceOf s.tRaw s.zeroOffset s.sens))) := by
  have hm : s.micro = .convert := by rw [State.micro, hop, hstep, hsub]; rfl
  rw [tick, hm, runMicro, complete_eq_deliver (by simp [hop])]

/-- The last two micro-steps of RDFORCE: the bytes latched are combined and converted (43_composition.md R142). -/
theorem run_combineAndConvert (hstep : s.seqStep = 4) (hsub : s.seqSub = 0) :
    runSeq 2 s = s.passReading.deliver
      (okRec false none (some (forceOf (rawReading s.b0 s.b1) s.zeroOffset s.sens))) := by
  have convert : tick (s.passReading.goTo 5 0) = _ := tick_rdforce_convert hop rfl rfl
  rw [runSeq_succ, tick_combineForce hop hstep hsub, runSeq_succ, convert]
  rfl

/-- The read of RDFORCE, completed, the combination of its bytes and the conversion (43_composition.md R142). -/
theorem run_readAndConvert {b0 b1 : Byte} {more : List Byte} {rest : List Answer} (hstep : s.seqStep = 3)
    (hsub : s.seqSub = 0) (ha : s.answers = .complete (b0 :: b1 :: more) :: rest) :
    runSeq 3 s = { s with
      answers := rest, b0 := b0, b1 := b1, tRaw := rawReading b0 b1
      busy := false, seqOp := .idle, seqStep := 0, seqSub := 0
      trace := s.trace ++ [.rd s.devAddr s.tReg 2 (some [b0, b1])]
      records := s.records ++ [okRec false none (some (forceOf (rawReading b0 b1) s.zeroOffset s.sens))] } := by
  rw [runSeq_succ, tick_rdforce_read hop hstep hsub ha]
  exact run_combineAndConvert hop rfl hsub

end

/-- Settles O27: the select and its wait, then the read, the combination and the conversion. -/
theorem rdforceReturnsTheForce : Obligations.RdforceReturnsTheForce := by
  intro s b0 b1 x more rest hready ha
  rw [exec_eq_run_atRead (.inr rfl) .rdforce hready ha (n := 3) rfl, run_readAndConvert rfl rfl rfl rfl,
    rawReading_eq_append]
  simp [atRead, State.latchReg, State.start, forceReg, forceOf, diff]

/-- Settles O28: the offset itself converts to zero; a rejected call leaves the record of the error and its event. -/
theorem noReadingIsNotZeroForce : Obligations.NoReadingIsNotZeroForce := by
  refine ⟨fun s b0 b1 x rest hready ha atOffset => ?_, fun s rest hready ha => ?_,
    fun s x bad rest hready rejected ha => ?_⟩
  · have zero := forceOf_zeroOffset s.zeroOffset s.sens
    refine ⟨_, rdforceReturnsTheForce s b0 b1 x [] rest hready ha, ?_⟩
    rw [← zero, atOffset]
    rfl
  · exact ⟨_, _, exec_select_rejected (.inr rfl) .rdforce hready ha, rfl, rfl, rfl, rfl, rfl⟩
  · have rejects : Rejects bad (.busRdForce forceReg) := by simpa [Rejects] using rejected
    exact ⟨_, _, exec_read_rejected (.inr rfl) .rdforce hready rejects ha, rfl, rfl, rfl, rfl,
      by simp [ended, failedEvents, atRead, forceReg]⟩

/-- Settles O29: a raw read that stops stops both operations alike, and a completed one hands its reading on. -/
theorem rdforceIsRdrawThenFconv : Obligations.RdforceIsRdrawThenFconv := by
  intro s hready
  have force := Accepted.rdforce (s := s)
  have raw := Accepted.rdraw (s := s) forceReg
  rcases rawRead_answers forceReg s.answers with ha | ⟨rest, ha⟩ | ⟨x, ha⟩ | ⟨x, bad, rest, rejects, ha⟩ |
      ⟨x, b0, b1, more, rest, ha⟩
  · exact ⟨_, _, exec_select_unanswered (.inr rfl) force hready ha, exec_select_unanswered (.inl rfl) raw hready ha,
      rfl, rfl, ⟨rfl, rfl, rfl, rfl⟩, rfl, .inl ⟨rfl, rfl, rfl⟩⟩
  · exact ⟨_, _, exec_select_rejected (.inr rfl) force hready ha, exec_select_rejected (.inl rfl) raw hready ha,
      rfl, rfl, ⟨rfl, rfl, rfl, rfl⟩, rfl, .inr (.inr ⟨_, rfl, rfl, rfl⟩)⟩
  · exact ⟨_, _, exec_read_unanswered (.inr rfl) force hready ha, exec_read_unanswered (.inl rfl) raw hready ha,
      rfl, rfl, ⟨rfl, rfl, rfl, rfl⟩, rfl, .inl ⟨rfl, rfl, rfl⟩⟩
  · exact ⟨_, _, exec_read_rejected (.inr rfl) force hready rejects ha,
      exec_read_rejected (.inl rfl) raw hready rejects ha,
      rfl, rfl, ⟨rfl, rfl, rfl, rfl⟩, rfl, .inr (.inr ⟨_, rfl, rfl, rfl⟩)⟩
  · exact ⟨_, _, rdforceReturnsTheForce s b0 b1 x more rest hready ha,
      rdrawReturnsTheReading s 0x06 b0 b1 x more rest hready ha, rfl, rfl, ⟨rfl, rfl, rfl, rfl⟩, rfl,
      .inr (.inl ⟨_, _, _, rfl, fconvReturnsTheForce _ _ rfl, rfl, rfl⟩)⟩

/-! ## CALIB -/

/-- An accepted CALIB starts at its first step; it has no operand to latch (43_composition.md R144). -/
theorem exec_calib_ready {s : State} (hready : s.busy = false) : exec .calib s = .next (runSeq 4 (s.start .calib)) := by
  rw [exec_accepted .calib, operate_ready _ _ _ hready]
  rfl

/-- A capture without a sample holds the block (R145). -/
theorem tick_withoutSample {s : State} (capture : s.micro = .captureZero ∨ s.micro = .captureLoad)
    (hs : s.samples = []) : tick s = s := by
  rw [tick]
  rcases capture with hm | hm <;> rw [hm]
  · simp [runMicro, captureZero, hs]
  · simp [runMicro, captureLoad, hs]

/-- CALIB with its unloaded sample captured as the offset: the loaded one is asked for next (R144, R145). -/
def zeroCaptured (s : State) (x : Sample) (left : List Sample) : State :=
  { s.start .calib with samples := left, tRaw := x.raw, zeroOffset := x.raw, seqStep := 3 }

/-- CALIB with both samples captured: the known load step is next (R144). -/
def loadCaptured (s : State) (x y : Sample) (left : List Sample) : State :=
  { zeroCaptured s x left with samples := left, tRaw := y.raw, tNum := y.num, seqStep := 4 }

@[simp] theorem loadCaptured_seqOp (s : State) (x y : Sample) (left : List Sample) :
    (loadCaptured s x y left).seqOp = .calib := rfl

theorem dropSample_eq {s : State} {x : Sample} {rest : List Sample} (hs : s.samples = x :: rest) :
    s.dropSample = { s with samples := rest } := by
  rw [State.dropSample, hs, List.tail_cons]

section
variable {s : State} {x y : Sample} {rest : List Sample}

theorem tick_captureZero (hs : s.samples = x :: rest) :
    tick (s.start .calib) = { s.start .calib with samples := rest, tRaw := x.raw, seqStep := 2 } := by
  have advance : ((s.start .calib).dropSample.latchSample x.raw s.tNum).advance = _ :=
    advance_eq_goTo (s := (s.start .calib).dropSample.latchSample x.raw s.tNum) (by simp) (p := (2, 0)) rfl
  have started : (s.start .calib).samples = x :: rest := hs
  change captureZero (s.start .calib) = _
  simp only [captureZero, started]
  exact advance.trans (by rw [dropSample_eq started]; rfl)

theorem tick_calib_zeroCapture (hop : s.seqOp = .calib) (hstep : s.seqStep = 2) (hsub : s.seqSub = 0) :
    tick s = s.zeroCapture.goTo 3 0 := by
  have hm : s.micro = .zeroCapture := by rw [State.micro, hop, hstep, hsub]; rfl
  have next : nextPosition s.seqOp s.seqStep s.seqSub = some (3, 0) := by rw [hop, hstep, hsub]; rfl
  have advance : s.zeroCapture.advance = _ := advance_eq_goTo (running_of_micro hm (by simp)) next
  rw [tick, hm]
  exact advance

/-- The unloaded sample is captured and becomes the offset (R144, 41_calibration.md R100). -/
theorem run_zeroSample (hs : s.samples = x :: rest) : runSeq 2 (s.start .calib) = zeroCaptured s x rest := by
  rw [runSeq_succ, tick_captureZero hs, runSeq_succ, runSeq_zero]
  exact tick_calib_zeroCapture rfl rfl rfl

theorem tick_captureLoad : tick (zeroCaptured s x (y :: rest)) = loadCaptured s x y rest :=
  advance_eq_goTo (s := (zeroCaptured s x (y :: rest)).dropSample.latchSample y.raw y.num) (by simp [zeroCaptured])
    (p := (4, 0)) rfl

variable (hready : s.busy = false)
include hready

theorem exec_calib_withoutSample (hs : s.samples = []) : exec .calib s = .next (s.start .calib) := by
  have held : tick (s.start .calib) = _ := tick_withoutSample (.inl rfl) hs
  rw [exec_calib_ready hready, runSeq_of_tick_eq 4 held]

theorem exec_calib_oneSample (hs : s.samples = [x]) : exec .calib s = .next (zeroCaptured s x []) := by
  rw [exec_calib_ready hready, runSeq_add 2 2, run_zeroSample hs,
    runSeq_of_tick_eq 2 (tick_withoutSample (.inr rfl) rfl)]

/-- With both samples CALIB comes to the known load step, CALLD's own (R144, R101). -/
theorem exec_calib_twoSamples (hs : s.samples = x :: y :: rest) :
    exec .calib s = .next (knownLoad (loadCaptured s x y rest)) := by
  rw [exec_calib_ready hready, runSeq_add 2 2, run_zeroSample hs, runSeq_succ, tick_captureLoad]
  rfl

/-- Samples of equal raw values: the degenerate test holds with the offset already written (R146). -/
theorem exec_calib_equal (hs : s.samples = x :: y :: rest) (equal : y.raw = x.raw) :
    exec .calib s = .next
      ((loadCaptured s x y rest).deliver (errRec .degenerateCalibration false 0)) := by
  have test : knownLoad (loadCaptured s x y rest) = (loadCaptured s x y rest).raiseError .degenerateCalibration 0 :=
    if_pos ((degenerate_iff _ _).mpr equal)
  rw [exec_calib_twoSamples hready hs, test, raiseError_running _ _ _ (by simp)]
  rfl

/-- Samples of different raw values: the sensitivity is fitted and CALIB completes (R144). -/
theorem exec_calib_unlike (hs : s.samples = x :: y :: rest) (unlike : y.raw ≠ x.raw) :
    exec .calib s = .next
      ((loadCaptured s x y rest).fitSensitivity.deliver (okRec false none none)) := by
  have test : knownLoad (loadCaptured s x y rest) = (loadCaptured s x y rest).fitSensitivity.advance :=
    if_neg (mt (degenerate_iff _ _).mp unlike)
  rw [exec_calib_twoSamples hready hs, test, advance_eq_complete (by simp) rfl, complete_eq_deliver (by simp)]

end

/-- Settles O30: both captures, then the fit of CALLD. -/
theorem calibFitsFromTwoSamples : Obligations.CalibFitsFromTwoSamples := by
  intro s x y rest hready hs unlike
  rw [exec_calib_unlike hready hs unlike]
  rfl

/-- Settles O31: the degenerate test comes after the write of the offset and before that of the sensitivity. -/
theorem degenerateCalibKeepsTheNewOffset : Obligations.DegenerateCalibKeepsTheNewOffset := by
  intro s x y rest hready hs equal
  exact ⟨_, exec_calib_equal hready hs equal, rfl, rfl, rfl, rfl, rfl⟩

/-- Settles O32: after ZCAP the offset is the first sample, so CALLD's degenerate test is CALIB's. -/
theorem calibIsZcapThenCalld : Obligations.CalibIsZcapThenCalld := by
  intro s x y rest hready hs
  have zcap := zcapWritesOnlyTheOffset s x.raw hready
  by_cases equal : y.raw = x.raw
  · exact ⟨_, _, _, _, exec_calib_equal hready hs equal, zcap, exec_calld_equal rfl equal y.num,
      ⟨rfl, rfl, rfl, rfl⟩, rfl, rfl, rfl⟩
  · exact ⟨_, _, _, _, exec_calib_unlike hready hs equal, zcap, exec_calld_unlike rfl equal y.num,
      ⟨rfl, rfl, rfl, rfl⟩, rfl, rfl, rfl⟩

/-- Settles O33: each capture without a sample holds the block at its step. -/
theorem calibHoldsForItsSamples : Obligations.CalibHoldsForItsSamples := by
  intro s hready
  refine ⟨fun hs => ?_, fun x hs => ?_⟩
  · have held : step (s.start .calib) = .next (s.start .calib) :=
      (step_busy _ rfl).trans (congrArg _ (tick_withoutSample (.inl rfl) hs))
    exact ⟨_, exec_calib_withoutSample hready hs, rfl, rfl, rfl, rfl, ⟨rfl, rfl, rfl, rfl⟩, held⟩
  · have held : step (zeroCaptured s x []) = .next (zeroCaptured s x []) :=
      (step_busy _ rfl).trans (congrArg _ (tick_withoutSample (.inr rfl) rfl))
    exact ⟨_, exec_calib_oneSample hready hs, rfl, rfl, rfl, rfl, rfl, rfl, held⟩

end Sys2Proof.Composition
end

section
/-! PROOF that the block has no fault and is held only from outside (60_exceptions.md R170, R178). Every row of the
opcode table answers a next state, and so does a step; a call the transport has not answered answers the same state. -/

namespace Sys2Proof.Exceptions

open Sys2Proof.Machine Sys2Proof.Sequencing

/-! ## No fault -/

/-- What each family of rows answers: an operation runs the sequencer, a reserved header is `IllegalCommand`, a bus row
issues its call. -/
theorem exec_answers_next (i : Instr) (s : State) : ∃ t, exec i s = .next t := by
  cases i with
  | rdraw _ | zcap _ | calld _ _ | fconv _ | setcal _ _ | chaddr _ | rdforce | calib => exact ⟨operate _ _ s, rfl⟩
  | reserved00 | reserved09 | reserved0A0B _ | reserved0C0F _ | reservedBit4 _ _ | reservedBit5 _ _ | reservedBit6 _ _
  | reservedBit7 _ => exact ⟨illegalCommand s, rfl⟩
  | busSelForce reg => exact ⟨issueSel reg s, rfl⟩
  | busRdForce reg => exact ⟨issueRd reg s, rfl⟩
  | busEnterCm | busReqWord2 | busWriteWord2 _ _ | busExitCm => exact ⟨issueWr _ _ _ s, rfl⟩
  | busFetchWord => exact ⟨issueFetch s, rfl⟩
  | busPin level => exact ⟨issuePin level s, rfl⟩

/-- Settles O44: a step runs the row fetched, or is internal, and neither stops. -/
theorem everyStepAnswersNext : Obligations.EveryStepAnswersNext := by
  refine ⟨fun s => ?_, exec_answers_next⟩
  rcases step_cases s with ⟨i, u, _, e⟩ | ⟨_, e⟩
  · rw [e]
    exact exec_answers_next i u
  · exact ⟨internalStep s, e⟩

/-! ## A call that is not answered -/

section
variable {s : State} (ha : s.answers = [])
include ha

theorem issueSel_unanswered (reg : Byte) : issueSel reg s = s := by
  simpa [ha] using issueSel_cases reg s

theorem issueWr_unanswered (cmd p0 p1 : Byte) : issueWr cmd p0 p1 s = s := by
  simpa [ha] using issueWr_cases cmd p0 p1 s

theorem issuePin_unanswered (level : BitVec 1) : issuePin level s = s := by
  simpa [ha] using issuePin_cases level s

theorem issueRd_unanswered (reg : Byte) : issueRd reg s = s := by
  simp [issueRd, busRead, ha]

theorem issueFetch_unanswered : issueFetch s = s := by
  simp [issueFetch, busRead, ha]

/-- Each row the sequencer can issue next waits for its answer. -/
theorem tick_of_unanswered_frame {i : Instr} (hframe : s.nextFrame = some i) : tick s = s := by
  unfold tick
  unfold State.nextFrame at hframe
  cases hm : s.micro with
  | sel => exact issueSel_unanswered ha _
  | rd => exact issueRd_unanswered ha _
  | enterCm | reqWord2 | writeWord2 | exitCm => exact issueWr_unanswered ha _ _ _
  | fetchWord => exact issueFetch_unanswered ha
  | pin level => exact issuePin_unanswered ha level
  | _ => simp [hm] at hframe

end

/-- A state that steps to itself is held there for any number of steps. -/
theorem reaches_self_of_step {s : State} (held : step s = .next s) (n : Nat) : Reaches n s s := by
  induction n with
  | zero => exact reaches_zero.mpr rfl
  | succ n ih => exact reaches_succ.mpr ⟨s, held, ih⟩

/-- Settles O41: the step of a busy block is a micro-step, which leaves the state as it is while the call is not
answered. -/
theorem unansweredCallHoldsTheBlock : Obligations.UnansweredCallHoldsTheBlock := by
  intro s i n hbusy hframe ha
  have held : step s = .next s := by rw [step_busy s hbusy, tick_of_unanswered_frame ha hframe]
  exact reaches_self_of_step held n

end Sys2Proof.Exceptions
end
